-- ==== Sys2Proof/Word.lean ====
section
/-! DEFINITION. The byte, and the level of an output line. -/

namespace Sys2Proof

/-- A byte: an unsigned 8-bit value, bit 0 the least significant (R8). -/
abbrev Byte := BitVec 8

/-- A level of the chip-enable or chip-select output (R20). -/
inductive Level where
  | low
  | high
  deriving DecidableEq, Repr, Inhabited

end Sys2Proof
end

