-- ==== Sys2Proof/Config.lean ====
section
/-! DEFINITION. What the spec fixes (R6, R87, R95), the defaults of what it leaves open (R7), and the free
values: constants with no body, about which nothing can be proved beyond their type. -/

namespace Sys2Proof.Config

/-! ### Wait bounds (R6, R246), in microseconds: each is a lower bound (R247) -/

/-- `T_POR`: at least 100 ms, post-power-on settle (R146 step 1). -/
def tPor : Nat := 100000
/-- `T_CE_CSN`: at least 1 ms, between CE low and CSN high (R146 step 2). -/
def tCeCsn : Nat := 1000
/-- `T_XTAL`: at least 5 ms, crystal startup (R146 step 3). -/
def tXtal : Nat := 5000
/-- `T_MODE`: at least 130 µs, mode settle (R148, R151). -/
def tMode : Nat := 130
/-- `T_CE_PULSE`: at least 10 µs, the CE pulse (R157). -/
def tCePulse : Nat := 10

/-! ### Defaults of the open parameters (R7) -/

/-- `BAUD_MAX_EXACT`, default 7 500 000 Hz (D11). -/
def baudMaxExact : Nat := 7500000
/-- The default of `NOP_BYTE` (D7, R85). -/
def nopByte : Byte := 0xFF

/-! ### Register addresses (R87). PRESUMED by the spec itself: the datasheet's values, log entry 12. -/

/-- CONFIG. -/
def regConfig : Byte := 0x00
/-- EN_AA. -/
def regEnAa : Byte := 0x01
/-- EN_RXADDR. -/
def regEnRxaddr : Byte := 0x02
/-- SETUP_AW. -/
def regSetupAw : Byte := 0x03
/-- SETUP_RETR. -/
def regSetupRetr : Byte := 0x04
/-- RF_CH. -/
def regRfCh : Byte := 0x05
/-- RF_SETUP. -/
def regRfSetup : Byte := 0x06
/-- STATUS. -/
def regStatus : Byte := 0x07
/-- RX_ADDR_P0; RX_ADDR_Pp is `0x0A + p`. -/
def regRxAddrP0 : Byte := 0x0A
/-- TX_ADDR. -/
def regTxAddr : Byte := 0x10
/-- RX_PW_P0; RX_PW_Pp is `0x11 + p`. -/
def regRxPwP0 : Byte := 0x11
/-- DYNPD. -/
def regDynpd : Byte := 0x1C
/-- FEATURE. -/
def regFeature : Byte := 0x1D

/-! ### Fixed SPI command bytes (R83, R84) -/

/-- R_RX_PAYLOAD. -/
def cmdRRxPayload : Byte := 0x61
/-- W_TX_PAYLOAD. -/
def cmdWTxPayload : Byte := 0xA0
/-- FLUSH_TX. -/
def cmdFlushTx : Byte := 0xE1
/-- FLUSH_RX. -/
def cmdFlushRx : Byte := 0xE2

/-! ### Latch masks of STATUS (R95). PRESUMED by the spec itself, log entry 12. -/

/-- `RX_DR_MASK`. -/
def rxDrMask : Byte := 0x40
/-- `TX_DS_MASK`. -/
def txDsMask : Byte := 0x20
/-- `MAX_RT_MASK`. -/
def maxRtMask : Byte := 0x10

/-! ### Free values -/

/-- Whether the `k`-th answer drawn from the device is `short` (R55, U3). Free value, log entry 7. -/
opaque freeShort : Nat → Bool
/-- Byte `i` of the `k`-th answer drawn from the device (R55, U3). Free value, log entry 7. -/
opaque freeRx : Nat → Nat → Byte
/-- The level of CE at reset (R34, U1). Free value, log entry 8. -/
opaque resetCe : Level
/-- The level of CSN at reset (R34, U1). Free value, log entry 8. -/
opaque resetCsn : Level
/-- Byte `i` of `st.p0.addr` at reset, where `st.p0.present` is 0 (R20, U2). Free value, log entry 9. -/
opaque resetP0Byte : Nat → Byte
/-- The bus clock rate the host configured, before the cap (R7, D11). Free value, log entry 10. -/
opaque freeBaud : Nat

end Sys2Proof.Config
end

