-- ==== Sys2Proof/Syntax.lean ====
section
/-! DEFINITION. The instructions: one constructor per row of spec/opcode_table.json, the records they are
written in, and the reasons a record spells no instruction. -/

namespace Sys2Proof

/-- A configuration record of INITIALISE, each field one byte so that an out-of-domain value can be
written (R102). -/
structure CfgRecord where
  aw  : Byte
  ch  : Byte
  dr  : Byte
  pwr : Byte
  ard : Byte
  arc : Byte
  dyn : Byte
  deriving DecidableEq, Repr

/-- The operand `cfg` of INITIALISE (R102): `default` (R103), or a record. -/
inductive CfgOperand where
  | defaultCfg
  | record (c : CfgRecord)
  deriving DecidableEq, Repr

/-- The instructions. The first six are the framer's SPI frames (R80), the other twenty-one the host's
commands (R101). Scalar operands of host commands are bytes, list operands lists of bytes (R102). -/
inductive Instr where
  /-- W_REGISTER `001aaaaa` and `data` (R81, R121). -/
  | wRegister (addr : BitVec 5) (data : List Byte)
  /-- R_REGISTER `000aaaaa` and `n` filler bytes (R82, R122, R123). -/
  | rRegister (addr : BitVec 5) (n : Nat)
  /-- R_RX_PAYLOAD 0x61 and `n` filler bytes (R83, R125). -/
  | rRxPayload (n : Nat)
  /-- W_TX_PAYLOAD 0xA0 and `payload` (R83, R124). -/
  | wTxPayload (payload : List Byte)
  /-- FLUSH_TX, the one-byte frame 0xE1 (R84, R126). -/
  | flushTxFrame
  /-- FLUSH_RX, the one-byte frame 0xE2 (R84, R127). -/
  | flushRxFrame
  /-- INITIALISE, code 0x01 (R144 to R147). -/
  | initialise (cfg : CfgOperand)
  /-- STANDBY_MODE, code 0x02 (R148, R149). -/
  | standbyMode
  /-- RECEIVER_MODE, code 0x03 (R150 to R153). -/
  | receiverMode
  /-- SEND_PACKET, code 0x04 (R154 to R159). -/
  | sendPacket (payload : List Byte)
  /-- READ_PACKET, code 0x05 (R208). -/
  | readPacket (size : Byte)
  /-- IS_PACKET, code 0x06 (R207). -/
  | isPacket
  /-- CHECK_STATUS_IRQ, code 0x07 (R203). -/
  | checkStatusIrq
  /-- RX_DESTINATION, code 0x08 (R170 to R175). -/
  | rxDestination (pipe : Byte) (addr : List Byte)
  /-- TX_DESTINATION, code 0x09 (R176, R177). -/
  | txDestination (addr : List Byte)
  /-- PAYLOAD_SIZE, code 0x0A (R178, R179). -/
  | payloadSize (pipe size : Byte)
  /-- DYN_PAYLOADS_ENABLE, code 0x0B (R180). -/
  | dynPayloadsEnable
  /-- DYN_PAYLOADS_DISABLE, code 0x0C (R181). -/
  | dynPayloadsDisable
  /-- AUTO_RETRANSMISSION, code 0x0D (R184, R185). -/
  | autoRetransmission (ard arc : Byte)
  /-- RF_CHANNEL, code 0x0E (R188, R189). -/
  | rfChannel (ch : Byte)
  /-- RF_DATA_RATE, code 0x0F (R190, R191). -/
  | rfDataRate (dr : Byte)
  /-- RF_POWER, code 0x10 (R193, R194). -/
  | rfPower (pwr : Byte)
  /-- WRITE_REGISTER, code 0x20 (R128). -/
  | writeRegister (addr : Byte) (data : List Byte)
  /-- READ_REGISTER_BYTE, code 0x21 (R129). -/
  | readRegisterByte (addr : Byte)
  /-- READ_REGISTER_BYTES, code 0x22 (R130). -/
  | readRegisterBytes (addr n : Byte)
  /-- FLUSH_TX as a host command, code 0x23 (R131). -/
  | flushTx
  /-- FLUSH_RX as a host command, code 0x24 (R132). -/
  | flushRx
  deriving DecidableEq, Repr

/-- Where a record stands: on the host's command interface (R100), or at the framer, as the bytes of one
frame (R80). The two code spaces overlap as bytes, so a byte is read only together with its place. -/
inductive Space where
  | host
  | framer
  deriving DecidableEq, Repr

/-- One instruction as bytes: a command code and its operand bytes, or a command byte and its data bytes.
The record ends where its bytes end, as a frame ends with its chip-select bracket (R80). The operand layout
of a host record is the model's: DESIGN CHOICE, log entry 1. -/
structure Record where
  space : Space
  bytes : List Byte
  deriving DecidableEq, Repr

/-- Why a record spells no instruction. -/
inductive Reject where
  /-- A record with no byte at all. -/
  | emptyRecord
  /-- A host code outside the table (R105, R226). -/
  | unassignedCode (code : Byte)
  /-- A host code with a wrong number of operand bytes (the model's layout, log entry 1). -/
  | operandCount (code : Byte)
  /-- A command byte that is none of the six patterns (R86). -/
  | noFrameCommand (command : Byte)
  /-- A frame whose data length the command does not have (R80, R133). -/
  | frameLength (command : Byte)
  deriving DecidableEq, Repr

end Sys2Proof
end

