-- ==== Sys2Proof/WellFormed.lean ====
section
/-! DEFINITION. What an instruction must satisfy on its own, whatever the state, to have a meaning: the data
lengths of frames (R57, R80) and the operand forms that the model must refuse (R226). A value outside an
operand's domain that gives `ParameterError` (R102) is well formed: the instruction runs and says so. -/

namespace Sys2Proof

/-- A data length of a frame or a byte-list operand: 1 to 32 (R57, R102). -/
abbrev lengthOk (n : Nat) : Bool := 1 ≤ n && n ≤ 32

/-- An instruction that is not one of the refused forms of R226 that the operands alone decide. -/
def Instr.wellFormed : Instr → Bool
  | .wRegister _ data => lengthOk data.length
  | .rRegister _ n => lengthOk n
  | .rRxPayload n => lengthOk n
  | .wTxPayload payload => lengthOk payload.length
  | .flushTxFrame => true
  | .flushRxFrame => true
  | .initialise _ => true
  | .standbyMode => true
  | .receiverMode => true
  | .sendPacket payload => lengthOk payload.length
  | .readPacket size => lengthOk size.toNat
  | .isPacket => true
  | .checkStatusIrq => true
  | .rxDestination pipe addr => pipe != 6 && (1 ≤ addr.length || 7 ≤ pipe.toNat)
  | .txDestination addr => 3 ≤ addr.length
  | .payloadSize _ _ => true
  | .dynPayloadsEnable => true
  | .dynPayloadsDisable => true
  | .autoRetransmission _ _ => true
  | .rfChannel _ => true
  | .rfDataRate _ => true
  | .rfPower _ => true
  | .writeRegister _ data => lengthOk data.length
  | .readRegisterByte _ => true
  | .readRegisterBytes _ n => lengthOk n.toNat
  | .flushTx => true
  | .flushRx => true

end Sys2Proof
end

