-- ==== Sys2Proof/Decode.lean ====
section
/-! DEFINITION. Reading a record as an instruction, total on any bytes and rejecting by name; after it the
encoder, written from the same tables (R80, R101, R102), and the reading of one word of the opcode table. -/

namespace Sys2Proof

/-! ### Operand layouts of host records (log entry 1) -/

/-- A command without operands. -/
def operands0 (code : Byte) (i : Instr) : List Byte → Except Reject Instr
  | [] => .ok i
  | _ :: _ => .error (.operandCount code)

/-- A command with one scalar operand. -/
def operands1 (code : Byte) (f : Byte → Instr) : List Byte → Except Reject Instr
  | [a] => .ok (f a)
  | _ => .error (.operandCount code)

/-- A command with two scalar operands. -/
def operands2 (code : Byte) (f : Byte → Byte → Instr) : List Byte → Except Reject Instr
  | [a, b] => .ok (f a b)
  | _ => .error (.operandCount code)

/-- A command with one scalar operand and then a byte list. -/
def operands1List (code : Byte) (f : Byte → List Byte → Instr) : List Byte → Except Reject Instr
  | a :: xs => .ok (f a xs)
  | [] => .error (.operandCount code)

/-- The operand of INITIALISE: no byte for `default`, or the seven bytes of a record in R102's order. -/
def operandsCfg : List Byte → Except Reject Instr
  | [] => .ok (.initialise .defaultCfg)
  | [aw, ch, dr, pwr, ard, arc, dyn] => .ok (.initialise (.record ⟨aw, ch, dr, pwr, ard, arc, dyn⟩))
  | _ => .error (.operandCount 0x01)

/-! ### Decoding -/

/-- A host command: the row of R101 whose code equals the command code (R105). -/
def decodeHost (code : Byte) (ops : List Byte) : Except Reject Instr :=
  match code with
  | 0x01#8 => operandsCfg ops
  | 0x02#8 => operands0 code .standbyMode ops
  | 0x03#8 => operands0 code .receiverMode ops
  | 0x04#8 => .ok (.sendPacket ops)
  | 0x05#8 => operands1 code .readPacket ops
  | 0x06#8 => operands0 code .isPacket ops
  | 0x07#8 => operands0 code .checkStatusIrq ops
  | 0x08#8 => operands1List code .rxDestination ops
  | 0x09#8 => .ok (.txDestination ops)
  | 0x0A#8 => operands2 code .payloadSize ops
  | 0x0B#8 => operands0 code .dynPayloadsEnable ops
  | 0x0C#8 => operands0 code .dynPayloadsDisable ops
  | 0x0D#8 => operands2 code .autoRetransmission ops
  | 0x0E#8 => operands1 code .rfChannel ops
  | 0x0F#8 => operands1 code .rfDataRate ops
  | 0x10#8 => operands1 code .rfPower ops
  | 0x20#8 => operands1List code .writeRegister ops
  | 0x21#8 => operands1 code .readRegisterByte ops
  | 0x22#8 => operands2 code .readRegisterBytes ops
  | 0x23#8 => operands0 code .flushTx ops
  | 0x24#8 => operands0 code .flushRx ops
  | _ => .error (.unassignedCode code)

/-- A frame with `n` data bytes, 1 to 32 (R57, R80). -/
def framed (command : Byte) (data : List Byte) (i : Instr) : Except Reject Instr :=
  if lengthOk data.length then .ok i else .error (.frameLength command)

/-- A one-byte frame (R84). -/
def frameBare (command : Byte) (data : List Byte) (i : Instr) : Except Reject Instr :=
  if data = [] then .ok i else .error (.frameLength command)

/-- A frame: the six patterns of R80. The filler bytes of a read are not looked at (the device ignores
them, D7): DESIGN CHOICE, log entry 21. -/
def decodeFrame (command : Byte) (data : List Byte) : Except Reject Instr :=
  if command = Config.cmdRRxPayload then framed command data (.rRxPayload data.length)
  else if command = Config.cmdWTxPayload then framed command data (.wTxPayload data)
  else if command = Config.cmdFlushTx then frameBare command data .flushTxFrame
  else if command = Config.cmdFlushRx then frameBare command data .flushRxFrame
  else if command.extractLsb' 5 3 = 0b001#3 then
    framed command data (.wRegister (command.extractLsb' 0 5) data)
  else if command.extractLsb' 5 3 = 0b000#3 then
    framed command data (.rRegister (command.extractLsb' 0 5) data.length)
  else .error (.noFrameCommand command)

/-- The instruction a record spells. -/
def decode (r : Record) : Except Reject Instr :=
  match r.bytes with
  | [] => .error .emptyRecord
  | b :: rest =>
    match r.space with
    | .host => decodeHost b rest
    | .framer => decodeFrame b rest

/-! ### Encoding -/

/-- A host record. -/
def hostRecord (code : Byte) (ops : List Byte) : Record := ⟨.host, code :: ops⟩

/-- A frame as a record. -/
def frameRecord (command : Byte) (data : List Byte) : Record := ⟨.framer, command :: data⟩

/-- The record of an instruction; `nop` is the parameter `NOP_BYTE`, the filler of reads (R85). -/
def encode (nop : Byte) : Instr → Record
  | .wRegister addr data => frameRecord (0b001#3 ++ addr) data
  | .rRegister addr n => frameRecord (0b000#3 ++ addr) (List.replicate n nop)
  | .rRxPayload n => frameRecord 0b01100001#8 (List.replicate n nop)
  | .wTxPayload payload => frameRecord 0b10100000#8 payload
  | .flushTxFrame => frameRecord 0b11100001#8 []
  | .flushRxFrame => frameRecord 0b11100010#8 []
  | .initialise .defaultCfg => hostRecord 0x01 []
  | .initialise (.record c) => hostRecord 0x01 [c.aw, c.ch, c.dr, c.pwr, c.ard, c.arc, c.dyn]
  | .standbyMode => hostRecord 0x02 []
  | .receiverMode => hostRecord 0x03 []
  | .sendPacket payload => hostRecord 0x04 payload
  | .readPacket size => hostRecord 0x05 [size]
  | .isPacket => hostRecord 0x06 []
  | .checkStatusIrq => hostRecord 0x07 []
  | .rxDestination pipe addr => hostRecord 0x08 (pipe :: addr)
  | .txDestination addr => hostRecord 0x09 addr
  | .payloadSize pipe size => hostRecord 0x0A [pipe, size]
  | .dynPayloadsEnable => hostRecord 0x0B []
  | .dynPayloadsDisable => hostRecord 0x0C []
  | .autoRetransmission ard arc => hostRecord 0x0D [ard, arc]
  | .rfChannel ch => hostRecord 0x0E [ch]
  | .rfDataRate dr => hostRecord 0x0F [dr]
  | .rfPower pwr => hostRecord 0x10 [pwr]
  | .writeRegister addr data => hostRecord 0x20 (addr :: data)
  | .readRegisterByte addr => hostRecord 0x21 [addr]
  | .readRegisterBytes addr n => hostRecord 0x22 [addr, n]
  | .flushTx => hostRecord 0x23 []
  | .flushRx => hostRecord 0x24 []

/-! ### One word of the opcode table -/

/-- The codes of R101. -/
def isHostCode (b : Byte) : Bool :=
  (0x01 ≤ b.toNat && b.toNat ≤ 0x10) || (0x20 ≤ b.toNat && b.toNat ≤ 0x24)

/-- How many zero operand bytes complete a table word to the longest form of its row (log entry 24):
INITIALISE is complete as `cfg=default`; an address buffer gets the five bytes of the widest address. -/
def zeroOperands (space : Space) (b : Byte) : Nat :=
  match space with
  | .host =>
    if b = 0x04 then 32 else if b = 0x05 then 1 else if b = 0x08 then 6 else if b = 0x09 then 5
    else if b = 0x0A || b = 0x0D || b = 0x22 then 2
    else if b = 0x0E || b = 0x0F || b = 0x10 || b = 0x21 then 1
    else if b = 0x20 then 33 else 0
  | .framer => if b = Config.cmdFlushTx || b = Config.cmdFlushRx then 0 else 32

/-- The `n / 8` bytes of a table word, the least significant first. -/
def wordBytes (nbits w : Nat) : List Byte :=
  (List.range (nbits / 8)).map fun k => BitVec.ofNat 8 (w >>> (8 * k))

/-- The record a table word stands for: a host command where its first byte is a host code, else a frame
(DESIGN CHOICE, log entry 3), followed by zero operand bytes (log entry 24). -/
def recordOfWord (nbits w : Nat) : Record :=
  match wordBytes nbits w with
  | [] => ⟨.host, []⟩
  | b :: rest =>
    let space := if isHostCode b then Space.host else Space.framer
    ⟨space, b :: rest ++ List.replicate (zeroOperands space b - rest.length) 0⟩

/-- The instruction the decoder reads from a table word. -/
def decodeTableWord (nbits w : Nat) : Option Instr :=
  match decode (recordOfWord nbits w) with
  | .ok i => some i
  | .error _ => none

end Sys2Proof
end

