-- ==== Sys2Proof/Machine/State.lean ====
section
/-! DEFINITION. The state of the machine as plain data: the block state `st` of R20 field by field, the
position inside a running command (R37), the reply and the event trace (R11, R36), the parameters (R7), the
environment (R55, R63) and the host's coming commands (R37, R233); the fault and refusal reasons; reset. -/

namespace Sys2Proof.Machine

/-- `st.mode` (R20, R21); Standby-II is not a value (R22). -/
inductive Mode where
  | pd
  | standbyI
  | tx
  | rx
  deriving DecidableEq, Repr

/-- The result codes of R220. `modeError` is never produced (R227). -/
inductive ResultCode where
  | ok
  | parameterError
  | busError
  | retryExhausted
  | modeError
  | timeout
  deriving DecidableEq, Repr

/-- The poll codes of R202. -/
inductive Irq where
  | none
  | rxDr
  | txDs
  | maxRt
  deriving DecidableEq, Repr

/-- `st.cfg` (R20, R25): the configuration the block last committed. -/
structure Cfg where
  aw  : BitVec 2
  dyn : BitVec 1
  ard : Byte
  arc : BitVec 4
  dr  : Byte
  pwr : Byte
  ch  : BitVec 7
  deriving DecidableEq, Repr

/-- `st.p0` (R20, R32): the cached pipe-0 receive address. -/
structure PipeZero where
  present : Bool
  addr    : List Byte
  deriving DecidableEq, Repr

/-- How an `Xfer` ends (R54). -/
inductive XferResult where
  | ok (rx : List Byte)
  | short
  deriving DecidableEq, Repr

/-- The events of R10, what the block is observed to do (R11). -/
inductive Event where
  | acquire (baud : Nat)
  | release
  | setCE (level : Level)
  | setCSN (level : Level)
  | xfer (tx : List Byte) (outcome : XferResult)
  /-- `Wait(t)`, the bound in microseconds (R247). -/
  | wait (bound : Nat)
  deriving DecidableEq, Repr

/-- What a command returns beside its result code (R36); `none` where it returns no data. -/
inductive Reply where
  | none
  /-- READ_REGISTER_BYTE (R129). -/
  | byte (v : Byte)
  /-- READ_REGISTER_BYTES, READ_PACKET, and the read frames (R123, R125, R130, R208). -/
  | bytes (vs : List Byte)
  /-- CHECK_STATUS_IRQ (R203). -/
  | status (code : Irq) (s : Byte)
  /-- IS_PACKET, a packet is available on `pipe` (R207). -/
  | available (pipe : BitVec 3)
  /-- IS_PACKET, no packet (R207). -/
  | noPacket
  deriving DecidableEq, Repr

/-- The position reached inside the running command (R37): none runs, or SEND_PACKET waits for completion
having polled `polls` times, the `i` of R205. -/
inductive Phase where
  | idle
  | waiting (polls : Nat)
  deriving DecidableEq, Repr

/-- `COMPLETION_TEST` (R7, R204). -/
inductive CompletionTest where
  | set
  | priority
  deriving DecidableEq, Repr

/-- The open parameters of R7. No step changes them (R39). -/
structure Params where
  baud           : Nat
  baudMaxExact   : Nat
  nopByte        : Byte
  completionTest : CompletionTest
  /-- `POLL_LIMIT`: `none`, or a number of polls, at least 1 (D22). -/
  pollLimit      : Option Nat
  deriving DecidableEq, Repr

/-- The outcome of a script of the device double (R68). -/
inductive SendOutcome where
  | sent
  | maxrt
  | never
  deriving DecidableEq, Repr

/-- One register `D[a]` of the double: a list of five bytes, `b0` the byte a 1-byte register uses (R63). Each byte is 0
where a test gives none (R63). -/
structure Register where
  b0 : Byte := 0x00
  b1 : Byte := 0x00
  b2 : Byte := 0x00
  b3 : Byte := 0x00
  b4 : Byte := 0x00
  deriving DecidableEq, Repr

/-- The device double of R63 to R69: the test harness of the spec, one of the oracle's answers (R55). -/
structure Double where
  /-- `D[a]` for each 5-bit address `a`; `[0x00]*5` for every `a` where a test does not give them (R63). -/
  regs    : Vector Register 32 := Vector.replicate 32 {}
  /-- The TX FIFO, head first (R63). -/
  txFifo  : List (List Byte)
  /-- The RX FIFO, head first (R63). -/
  rxFifo  : List (List Byte)
  /-- The counter of status reads since the last CE rising edge (R63). -/
  k       : Nat
  /-- Whether the script is armed (R67). -/
  armed   : Bool
  /-- `N` of the script, at least 1 (R68). -/
  after   : Nat
  /-- The outcome of the script (R68). -/
  outcome : SendOutcome
  /-- The status read at which the double sets RX_DR, where a test says so (R68): the value of `k` at that read, so that
  it happens again at that count after every arming CE edge. DESIGN CHOICE, log entry 20. -/
  rxDrAt  : Option Nat
  /-- The transfers it has been asked for. -/
  xfers   : Nat
  /-- The transfers, counted from 0, that a test names to be answered `short` (R69). -/
  shorts  : List Nat
  deriving DecidableEq, Repr

/-- The environment seen through the SPI port (R55): answers fixed in advance, used first; then the double
where there is one; else free values, the `draws`-th each time. The device's answers are an oracle, so a
statement about every state holds for every answer. Log entry 7. -/
structure Env where
  answers : List XferResult
  double  : Option Double
  draws   : Nat
  deriving DecidableEq, Repr

/-- The machine. -/
structure State where
  /-- `st.mode`. -/
  mode       : Mode
  /-- `st.cfg`. -/
  cfg        : Cfg
  /-- `st.awb`, the address width in bytes. -/
  awb        : BitVec 3
  /-- `st.p0`. -/
  p0         : PipeZero
  /-- `st.lastStatus`, STATUS as the latest poll read it (R33). -/
  lastStatus : Byte
  /-- `st.ce`, the level last driven (R34). -/
  ce         : Level
  /-- `st.csn`, the level last driven (R34). -/
  csn        : Level
  /-- `st.inSession` (R35). -/
  inSession  : Bool
  /-- `st.result` (R36). -/
  result     : ResultCode
  /-- The position inside the running command (R37). -/
  phase      : Phase
  /-- The data of the last command's reply (R36). -/
  reply      : Reply
  /-- Every event emitted since reset, oldest first (R10, R11). -/
  trace      : List Event
  /-- The parameters (R7, R39). -/
  params     : Params
  /-- The environment behind the SPI port (R55). -/
  env        : Env
  /-- The records the host will issue, the next one first (R37, R233). -/
  port       : List Record
  deriving DecidableEq, Repr

/-- The block has no traps and no faults (R230): every error is a result code (R220), so no step ends in a
fault and this type has no member. -/
inductive Fault where
  deriving DecidableEq, Repr

/-- Why the model gives no meaning. All are safe: the machine stops where the spec gives no behaviour. -/
inductive Refusal where
  /-- Raised by `exec` for an instruction without a meaning (no arm raises it). Safe. -/
  | notModelled (mnemonic : String)
  /-- Raised by `step` for a record that spells no instruction (R86, R105, R226). Safe. -/
  | undecodable (reason : Reject)
  /-- Raised by every host command while another runs (R12, R233, U18). Safe. -/
  | overlappingCommand
  /-- Raised by every frame instruction outside a session (R54, R120). Safe. -/
  | frameOutsideSession
  /-- Raised by a frame instruction with a data length outside 1 to 32 (R57, R80). Safe. -/
  | frameLength
  /-- Raised by RX_DESTINATION with pipe 6, `ALL` (R170, R226). Safe. -/
  | pipeAll
  /-- Raised by RX_DESTINATION and TX_DESTINATION for a buffer shorter than the bytes used (R170, R176,
  R226). Safe. -/
  | shortAddress
  /-- Raised by SEND_PACKET for a payload of length 0 or more than 32 (R154, R226). Safe. -/
  | payloadLength
  /-- Raised by WRITE_REGISTER for data of length 0 or more than 32 (R128, R226). Safe. -/
  | dataLength
  /-- Raised by READ_PACKET with `size` outside 1 to 32 (R208, R226). Safe. -/
  | packetSize
  /-- Raised by READ_REGISTER_BYTES with `n` outside 1 to 32 (R130, R226). Safe. -/
  | readCount
  deriving DecidableEq, Repr

/-- Block reset (R240): the reset column of R20; the free draws of R34, U1 and U2; the defaults of R7; an
empty trace (reset emits no event), no command yet (R241), and the oracle unfixed (R55). -/
def State.reset : State where
  mode       := .pd
  cfg        := { aw := 3, dyn := 0, ard := 0x10, arc := 10, dr := 0x00, pwr := 0x06, ch := 110 }
  awb        := 5
  p0         := { present := false, addr := (List.range 5).map Config.resetP0Byte }
  lastStatus := 0x00
  ce         := Config.resetCe
  csn        := Config.resetCsn
  inSession  := false
  result     := .ok
  phase      := .idle
  reply      := .none
  trace      := []
  params     := { baud           := min Config.freeBaud Config.baudMaxExact
                  baudMaxExact   := Config.baudMaxExact
                  nopByte        := Config.nopByte
                  completionTest := .set
                  pollLimit      := none }
  env        := { answers := [], double := none, draws := 0 }
  port       := []

end Sys2Proof.Machine
end

