-- ==== Sys2Proof/Machine/Double.lean ====
section
/-! DEFINITION. The device double of R63 to R69: how it answers a frame and reacts to the CE line. It is the
spec's test harness, not a specification of the device; log entry 20 has what R63 to R69 leave open. -/

namespace Sys2Proof.Machine

/-- The double at the start of a test that gives it only a script: `D[a]` = `[0x00]*5` for every `a` (R63). That its
FIFOs are then empty, no script is armed and `k` is 0 is the model's: DESIGN CHOICE, log entry 20. -/
def Double.initial (after : Nat) (outcome : SendOutcome) : Double :=
  { txFifo := [], rxFifo := [], k := 0, armed := false, after := after, outcome := outcome, rxDrAt := none, xfers := 0
    shorts := [] }

/-- The five bytes of a register (R63). -/
def Register.bytes (r : Register) : List Byte := [r.b0, r.b1, r.b2, r.b3, r.b4]

/-- `D[a]` (R63). -/
def Double.reg (d : Double) (a : BitVec 5) : Register := d.regs[a.toNat]'a.isLt

/-- `D[a] <- r`. -/
def Double.setReg (d : Double) (a : BitVec 5) (r : Register) : Double :=
  { d with regs := d.regs.set a.toNat r a.isLt }

/-- STATUS of the double, `D[0x07][0]`. -/
def Double.status (d : Double) : Byte := (d.reg 0x07).b0

/-- The double with STATUS set to `s`. -/
def Double.setStatus (d : Double) (s : Byte) : Double := d.setReg 0x07 { d.reg 0x07 with b0 := s }

/-- `D[a][i] <- v[i]` for each `i < |v|` that the register has (R64). -/
def Register.overwrite (r : Register) (v : List Byte) : Register :=
  { b0 := v.getD 0 r.b0, b1 := v.getD 1 r.b1, b2 := v.getD 2 r.b2, b3 := v.getD 3 r.b3, b4 := v.getD 4 r.b4 }

/-- STATUS after a write of `v`: each latch bit 4, 5, 6 written 1 is cleared, every other bit stays (R64). -/
def clearLatches (status v : Byte) : Byte := status &&& ~~~(v &&& 0x70)

/-- A W_REGISTER frame (R64). -/
def Double.writeRegister (d : Double) (a : BitVec 5) (v : List Byte) : Double :=
  if a = 0x07 then d.setStatus (clearLatches d.status (v.headD 0)) else d.setReg a ((d.reg a).overwrite v)

/-- `E(a)` (R65): the register, and for pipes 2 to 5 the effective address with pipe 1's upper bytes. -/
def Double.effective (d : Double) (a : BitVec 5) : Register :=
  if 0x0C ≤ a.toNat ∧ a.toNat ≤ 0x0F then { d.reg 0x0B with b0 := (d.reg a).b0 } else d.reg a

/-- The first `n` bytes of `xs`, filled up by `fill` (R65). -/
def takePad (n : Nat) (xs : List Byte) (fill : Nat → Byte) : List Byte :=
  (List.range n).map fun i => xs.getD i (fill i)

/-- A read of STATUS starts: `k` counts it, and the script acts when `k` becomes `N` (R65, R68). R68 does not say what
`a given read` counts from or whether RX_DR is set there once: here the read is the one at which `k` becomes `rxDrAt`,
armed or not, so RX_DR is set again at that count after every CE edge that restarts `k`. DESIGN CHOICE, log entry 20. -/
def Double.statusRead (d : Double) : Double :=
  let k := d.k + 1
  let d1 : Double := { d with k := k }
  let d2 : Double := if d.rxDrAt = some k then d1.setStatus (d1.status ||| 0x40) else d1
  if d.armed && k == d.after then
    match d.outcome with
    | .sent => { d2.setStatus (d2.status ||| 0x20) with txFifo := d2.txFifo.tail }
    | .maxrt => d2.setStatus (d2.status ||| 0x10)
    | .never => d2
  else d2

/-- The double's answer to a frame that it does answer (R64 to R66); `fill` gives the bytes of a register read
past the five bytes of the register, which R65 leaves open. -/
def Double.respond (d : Double) (command : Byte) (data : List Byte) (fill : Nat → Byte) :
    List Byte × Double :=
  let echo (s : Byte) : List Byte := List.replicate (data.length + 1) s
  let a := command.extractLsb' 0 5
  if command = 0xA0 then (echo d.status, { d with txFifo := d.txFifo ++ [data] })
  else if command = 0xE1 then (echo d.status, { d with txFifo := [] })
  else if command = 0xE2 then (echo d.status, { d with rxFifo := [] })
  else if command = 0x61 then
    (d.status :: takePad data.length (d.rxFifo.headD []) (fun _ => 0), { d with rxFifo := d.rxFifo.tail })
  else if command &&& 0xE0 = 0x20 then (echo d.status, d.writeRegister a data)
  else if command &&& 0xE0 = 0x00 then
    let d' := if a = 0x07 then d.statusRead else d
    (d'.status :: takePad data.length (d'.effective a).bytes fill, d')
  else (echo d.status, d)

/-- The double's answer to a transfer: `short` where a test names it, without a change of state but the count
of transfers (R69); otherwise R64 to R66. -/
def Double.answer (d : Double) (tx : List Byte) (fill : Nat → Byte) : XferResult × Double :=
  let d' : Double := { d with xfers := d.xfers + 1 }
  if d.shorts.contains d.xfers then (.short, d')
  else
    match tx with
    | [] => (.ok [], d')
    | command :: data =>
      let (rx, d'') := d'.respond command data fill
      (.ok rx, d'')

/-- A CE rising edge with a payload in the TX FIFO resets `k` and arms the script (R67). -/
def Double.onCE (d : Double) (level : Level) : Double :=
  if level = .high ∧ d.txFifo ≠ [] then { d with k := 0, armed := true } else d

end Sys2Proof.Machine
end

