-- ==== Sys2Proof/Machine/Device.lean ====
section
/-! DEFINITION. The environment behind the SPI port (R54, R55): what answers a transfer, and what a CE drive
does to it. -/

namespace Sys2Proof.Machine

/-- A transfer of `n` bytes is `ok` only when `n` bytes came back; any other byte count is `short` (R54). -/
def XferResult.checked (n : Nat) : XferResult → XferResult
  | .ok rx => if rx.length = n then .ok rx else .short
  | .short => .short

/-- The free answer numbered `k` to a transfer of `n` bytes (R55, U3). -/
def freeAnswer (k n : Nat) : XferResult :=
  if Config.freeShort k then .short else .ok ((List.range n).map (Config.freeRx k))

/-- The environment's answer to `Xfer(tx)`, and the environment after it (R54, R55). -/
def Env.answer (e : Env) (tx : List Byte) : XferResult × Env :=
  match e.answers with
  | a :: later => (a.checked tx.length, { e with answers := later })
  | [] =>
    match e.double with
    | some d =>
      let (r, d') := d.answer tx (Config.freeRx e.draws)
      (r.checked tx.length, { e with double := some d', draws := e.draws + 1 })
    | none => (freeAnswer e.draws tx.length, { e with draws := e.draws + 1 })

/-- The environment after `SetCE(level)` (R67). -/
def Env.onCE (e : Env) (level : Level) : Env :=
  { e with double := e.double.map fun d => d.onCE level }

end Sys2Proof.Machine
end

