-- ==== Sys2Proof/Machine/Flags.lean ====
section
/-! DEFINITION. The status latches and codes: the block has no flags of its own (R38), these are read from the
STATUS byte of a poll (R95); and the numeric codes of the block's enumerations (R20, R202, R220). -/

namespace Sys2Proof.Machine

/-- Receive-data-ready is latched in `s` (R95). -/
def rxDrSet (s : Byte) : Bool := s &&& Config.rxDrMask != 0

/-- Data-sent is latched in `s` (R95). -/
def txDsSet (s : Byte) : Bool := s &&& Config.txDsMask != 0

/-- Max-retransmits-reached is latched in `s` (R95). -/
def maxRtSet (s : Byte) : Bool := s &&& Config.maxRtMask != 0

/-- RX_P_NO, STATUS bits 3..1 (R95, R207). -/
def rxPipeNumber (s : Byte) : BitVec 3 := s.extractLsb' 1 3

/-- The priority code (R202). -/
def priorityCode (s : Byte) : Irq :=
  if rxDrSet s then .rxDr else if txDsSet s then .txDs else if maxRtSet s then .maxRt else .none

/-- What one poll of the completion wait counts as (R204). -/
inductive Completion where
  | sent
  | maxrt
  | keepPolling
  deriving DecidableEq, Repr

/-- The completion test (R204). -/
def completion (test : CompletionTest) (code : Irq) (s : Byte) : Completion :=
  match test with
  | .set => if txDsSet s then .sent else if maxRtSet s then .maxrt else .keepPolling
  | .priority => if code = .txDs then .sent else if code = .maxRt then .maxrt else .keepPolling

/-- The number of a mode (R20). -/
def Mode.number : Mode → BitVec 2
  | .pd => 0
  | .standbyI => 1
  | .tx => 2
  | .rx => 3

/-- The number of a result code (R220). -/
def ResultCode.number : ResultCode → BitVec 3
  | .ok => 0
  | .parameterError => 1
  | .busError => 2
  | .retryExhausted => 3
  | .modeError => 4
  | .timeout => 5

/-- The number of a poll code (R202). -/
def Irq.number : Irq → BitVec 2
  | .none => 0
  | .rxDr => 1
  | .txDs => 2
  | .maxRt => 3

end Sys2Proof.Machine
end

