-- ==== Sys2Proof/Machine/Operands.lean ====
section
/-! DEFINITION. Operands: their domains (R102), the default configuration (R103), and the bytes the block
composes from them (R81, R82, R91 to R99, R104). -/

namespace Sys2Proof.Machine

/-! ### Command bytes of register frames -/

/-- The W_REGISTER command byte of an address operand (R81). -/
def writeCommand (addr : Byte) : Byte := (addr &&& 0x1F) ||| 0x20

/-- The R_REGISTER command byte of an address operand (R82, C1). -/
def readCommand (addr : Byte) : Byte := addr &&& 0x1F

/-! ### Domains (R102) -/

/-- `aw` in 1, 2, 3. -/
def legalAw (aw : Byte) : Bool := aw == 1 || aw == 2 || aw == 3

/-- `ch` in 2..125; 100..124 are accepted (R29). -/
def legalCh (ch : Byte) : Bool := 2 ≤ ch.toNat && ch.toNat ≤ 125

/-- `dr` in 0x00, 0x08, 0x20 (R94). -/
def legalDr (dr : Byte) : Bool := dr == 0x00 || dr == 0x08 || dr == 0x20

/-- `pwr` in 0x00, 0x02, 0x04, 0x06 (R94). -/
def legalPwr (pwr : Byte) : Bool := pwr == 0x00 || pwr == 0x02 || pwr == 0x04 || pwr == 0x06

/-- `ard` in 0x00, 0x10, 0x20, 0x30 (R92, C2). -/
def legalArd (ard : Byte) : Bool := ard == 0x00 || ard == 0x10 || ard == 0x20 || ard == 0x30

/-- `arc` at most 15. -/
def legalArc (arc : Byte) : Bool := arc.toNat ≤ 15

/-- `dyn` in 0, 1. -/
def legalDyn (dyn : Byte) : Bool := dyn == 0 || dyn == 1

/-- A pipe operand that does not give `ParameterError`: 0..5, or 6 for `ALL` (R102). -/
def legalPipe (pipe : Byte) : Bool := pipe.toNat < 7

/-- `size` of PAYLOAD_SIZE in 1..32 (R178). -/
def legalSize (size : Byte) : Bool := 1 ≤ size.toNat && size.toNat ≤ 32

/-- A configuration that passes R144's checks. -/
def legalCfg (c : CfgRecord) : Bool :=
  legalAw c.aw && legalCh c.ch && legalDr c.dr && legalPwr c.pwr && legalArd c.ard && legalArc c.arc
    && legalDyn c.dyn

/-! ### Configuration -/

/-- The default configuration (R103). -/
def defaultRecord : CfgRecord :=
  { aw := 3, ch := 110, dr := 0x00, pwr := 0x06, ard := 0x10, arc := 10, dyn := 0 }

/-- `c <- if cfg = default then DEFAULT else cfg` (R144). -/
def cfgOf : CfgOperand → CfgRecord
  | .defaultCfg => defaultRecord
  | .record c => c

/-- A configuration record as the cache holds it (R20). -/
def Cfg.ofRecord (c : CfgRecord) : Cfg :=
  { aw := c.aw.setWidth 2, dyn := c.dyn.setWidth 1, ard := c.ard, arc := c.arc.setWidth 4, dr := c.dr
    pwr := c.pwr, ch := c.ch.setWidth 7 }

/-- The address width in bytes of a width code (R31). -/
def widthBytes (aw : BitVec 2) : BitVec 3 := aw.setWidth 3 + 2

/-- The DYNPD byte of a dynamic-payload flag (R98). -/
def dynpdByte (dyn : Byte) : Byte := if dyn = 1 then 0x3F else 0x00

/-! ### Pipes -/

/-- The address register of pipe `p`, `0x0A + p` (R87). -/
def rxAddrReg (p : Byte) : Byte := Config.regRxAddrP0 + p

/-- The payload-width register of pipe `p`, `0x11 + p` (R87). -/
def rxPwReg (p : Byte) : Byte := Config.regRxPwP0 + p

/-- The enable bit of pipe `p` in EN_RXADDR (R90). -/
def pipeBit (p : Byte) : Byte := (1 : Byte) <<< p.toNat

/-- How many bytes of an address buffer pipe `p` uses (R170). -/
def addressBytes (awb : BitVec 3) (p : Byte) : Nat := if p.toNat ≤ 1 then awb.toNat else 1

end Sys2Proof.Machine
end

