-- ==== Sys2Proof/Machine/Ops.lean ====
section
/-! DEFINITION. The named operations over the state: the events of R10, the frame (R120), the framer primitives
(R121 to R127), the ways a command ends (R224), the poll (R200), and the shared wrappers of the meanings. -/

namespace Sys2Proof.Machine

/-! ### Updates of the state -/

/-- One event is appended to the trace (R10). -/
def State.emit (s : State) (e : Event) : State := { s with trace := s.trace ++ [e] }

/-- `Acquire(BAUD)` (R10, R140). -/
def State.openSession (s : State) : State := { s.emit (.acquire s.params.baud) with inSession := true }

/-- `Release()` (R10, R140). -/
def State.closeSession (s : State) : State := { s.emit .release with inSession := false }

/-- `SetCE(level); st.ce <- level` (R10, R34, R67). -/
def State.driveCE (s : State) (level : Level) : State :=
  { s.emit (.setCE level) with ce := level, env := s.env.onCE level }

/-- `SetCSN(level); st.csn <- level` (R10, R34). -/
def State.driveCSN (s : State) (level : Level) : State := { s.emit (.setCSN level) with csn := level }

/-- `Wait(t)`: the event, which always completes (R247). -/
def State.waited (s : State) (bound : Nat) : State := s.emit (.wait bound)

/-- `Xfer(tx)`: the answer is the environment's (R54, R55). -/
def State.transferred (s : State) (tx : List Byte) : State :=
  { s.emit (.xfer tx (s.env.answer tx).1) with env := (s.env.answer tx).2 }

/-- `st.mode <- m`. -/
def State.withMode (s : State) (m : Mode) : State := { s with mode := m }

/-- `st.cfg <- c`, for the commands that change part of the cache. -/
def State.withCfg (s : State) (c : Cfg) : State := { s with cfg := c }

/-- The commit of INITIALISE (R145): a different width code drops the cached pipe-0 address (R31). -/
def State.committed (s : State) (c : CfgRecord) : State :=
  { s with
    p0 := if c.aw.setWidth 2 != s.cfg.aw then { s.p0 with present := false } else s.p0
    cfg := Cfg.ofRecord c
    awb := widthBytes (c.aw.setWidth 2) }

/-- `st.p0.addr <- a; st.p0.present <- 1` (R172). -/
def State.cacheP0 (s : State) (a : List Byte) : State := { s with p0 := { present := true, addr := a } }

/-- `st.lastStatus <- v` (R200). -/
def State.withStatus (s : State) (v : Byte) : State := { s with lastStatus := v }

/-- The position inside the running command (R37). -/
def State.withPhase (s : State) (p : Phase) : State := { s with phase := p }

/-- The data returned, without an end of a command (a frame instruction, log entry 4). -/
def State.withReply (s : State) (r : Reply) : State := { s with reply := r }

/-- `return r`: the command ends with a result code and its data (R36, R220). -/
def State.ended (s : State) (code : ResultCode) (r : Reply) : State :=
  { s with result := code, reply := r, phase := .idle }

/-- `raise E`, the exit actions of R224, shared by every failing command: an open session is released at once,
then the result is written and the command returns without data. Nothing is rolled back (R225). -/
def State.raised (s : State) (e : ResultCode) : State :=
  (if s.inSession then s.closeSession else s).ended e .none

/-! ### Steps of a command

A rule's pseudocode is an action over the state that may `raise` (R10). -/

/-- An action: it ends with a value, or raises a result code. -/
abbrev Act (α : Type) := EStateM ResultCode State α

/-- An action that only updates the state. -/
def act (f : State → State) : Act Unit := fun s => .ok () (f s)

/-- A value read from the state. -/
def look {α : Type} (f : State → α) : Act α := fun s => .ok (f s) s

/-- `if c then a`. -/
def onlyIf (c : Bool) (a : Act Unit) : Act Unit := if c then a else pure ()

/-- `Xfer(tx) -> ok(rx) | short` (R54). -/
def xfer (tx : List Byte) : Act XferResult := fun s => .ok (s.env.answer tx).1 (s.transferred tx)

/-- `frame(tx)` (R120). -/
def frame (tx : List Byte) : Act (List Byte) := do
  act (·.driveCSN .low)
  let r ← xfer tx
  act (·.driveCSN .high)
  match r with
  | .short => throw .busError
  | .ok rx => pure rx

/-- `writeRegister(addr, v)` (R121). -/
def writeReg (addr : Byte) (v : List Byte) : Act Unit := do
  let _ ← frame (writeCommand addr :: v)

/-- `readRegisterBytes(addr, n)` (R123). -/
def readRegs (addr : Byte) (n : Nat) : Act (List Byte) := do
  let nop ← look (·.params.nopByte)
  let rx ← frame (readCommand addr :: List.replicate n nop)
  pure (rx.drop 1)

/-- `readRegisterByte(addr)` (R122): `rx[1]`, which is there since `|rx| = 2` (R54). -/
def readReg (addr : Byte) : Act Byte := do
  let nop ← look (·.params.nopByte)
  let rx ← frame [readCommand addr, nop]
  pure (rx.getD 1 0)

/-- `writeTxPayload(p)` (R124). -/
def writeTxPayload (p : List Byte) : Act Unit := do
  let _ ← frame (Config.cmdWTxPayload :: p)

/-- `readRxPayload(n)` (R125). -/
def readRxPayload (n : Nat) : Act (List Byte) := do
  let nop ← look (·.params.nopByte)
  let rx ← frame (Config.cmdRRxPayload :: List.replicate n nop)
  pure (rx.drop 1)

/-- `flushTx()` (R126). -/
def flushTxFifo : Act Unit := do
  let _ ← frame [Config.cmdFlushTx]

/-- `flushRx()` (R127). -/
def flushRxFifo : Act Unit := do
  let _ ← frame [Config.cmdFlushRx]

/-- A session around the frames of a command (R140 to R142): released after the last step; on a `raise` the
exit actions release it. -/
def inOneSession {α : Type} (body : Act α) : Act α := do
  act (·.openSession)
  let v ← body
  act (·.closeSession)
  pure v

/-- Clear one latch by its own STATUS write, where `s` shows it asserted (R201). -/
def clearLatch (s mask : Byte) : Act Unit :=
  onlyIf (s &&& mask != 0) (writeReg Config.regStatus [mask])

/-- `poll()` (R200): the code and the STATUS byte read. -/
def poll : Act (Irq × Byte) := do
  let s ← readReg Config.regStatus
  act (·.withStatus s)
  clearLatch s Config.rxDrMask
  clearLatch s Config.txDsMask
  clearLatch s Config.maxRtMask
  pure (priorityCode s, s)

/-! ### Ends of commands -/

/-- The end of a command whose action returns its data with `Ok`, or raises (R220, R224). -/
def State.finish (r : EStateM.Result ResultCode State Reply) : State :=
  match r with
  | .ok reply t => t.ended .ok reply
  | .error e t => t.raised e

/-- The end of a framer primitive run on its own: its data, or the end of the command around it (R224). -/
def State.returned (r : EStateM.Result ResultCode State Reply) : State :=
  match r with
  | .ok reply t => t.withReply reply
  | .error e t => t.raised e

/-- A host command is accepted only while none runs (R12, R233, U18). -/
def hostCommand (s : State) (o : Host.Outcome State Fault Refusal) : Host.Outcome State Fault Refusal :=
  if s.phase = .idle then o else .refused .overlappingCommand

/-- A host command with no refused form: its action run to its end (R12). -/
def runCommand (s : State) (body : Act Reply) : Host.Outcome State Fault Refusal :=
  .next (State.finish (body s))

/-- A `ParameterError`: no event, and no state but the result (and the reply, which holds no data) (R141,
R221). -/
def parameterError (s : State) : Host.Outcome State Fault Refusal :=
  .next (s.ended .parameterError .none)

/-- A frame instruction: a framer primitive inside an open session (R120, R134), with 1 to 32 data bytes (R57)
or none. What it returns is the reply; a `short` transfer ends the command around it (R224). Log entry 4. -/
def framePrimitive (s : State) (lengthFits : Bool) (body : Act Reply) :
    Host.Outcome State Fault Refusal :=
  if !s.inSession then .refused .frameOutsideSession
  else if !lengthFits then .refused .frameLength
  else .next (State.returned (body s))

/-! ### The host's commands as the machine fetches them -/

/-- The next record on the host's port, and the state with it taken (R241); none while the host issues none. -/
def State.fetch (s : State) : Option (Record × State) :=
  match s.port with
  | [] => none
  | r :: later => some (r, { s with port := later })

/-- A record placed so that the next step fetches it: first on the port, no command running, and for a frame an
open session, which it needs (R120). Log entry 23. -/
def State.place (s : State) (r : Record) : State :=
  { s with
    port := r :: s.port
    phase := .idle
    inSession := if r.space = .framer then true else s.inSession }

end Sys2Proof.Machine
end

