-- ==== Sys2Proof/Machine/Frames.lean ====
section
/-! DEFINITION. The six SPI frames as instructions (R80, R121 to R127): each is the framer primitive, run inside
an open session. -/

namespace Sys2Proof.Machine

/-- W_REGISTER (R121). -/
def execWRegister (addr : BitVec 5) (data : List Byte) (s : State) : Host.Outcome State Fault Refusal :=
  framePrimitive s (lengthOk data.length) do
    writeReg (addr.setWidth 8) data
    pure .none

/-- R_REGISTER (R123; with `n` = 1 the frame and the value are those of R122). -/
def execRRegister (addr : BitVec 5) (n : Nat) (s : State) : Host.Outcome State Fault Refusal :=
  framePrimitive s (lengthOk n) do
    let vs ← readRegs (addr.setWidth 8) n
    pure (.bytes vs)

/-- R_RX_PAYLOAD (R125). -/
def execRRxPayload (n : Nat) (s : State) : Host.Outcome State Fault Refusal :=
  framePrimitive s (lengthOk n) do
    let p ← readRxPayload n
    pure (.bytes p)

/-- W_TX_PAYLOAD (R124). -/
def execWTxPayload (payload : List Byte) (s : State) : Host.Outcome State Fault Refusal :=
  framePrimitive s (lengthOk payload.length) do
    writeTxPayload payload
    pure .none

/-- FLUSH_TX, the frame (R126). -/
def execFlushTxFrame (s : State) : Host.Outcome State Fault Refusal :=
  framePrimitive s true do
    flushTxFifo
    pure .none

/-- FLUSH_RX, the frame (R127). -/
def execFlushRxFrame (s : State) : Host.Outcome State Fault Refusal :=
  framePrimitive s true do
    flushRxFifo
    pure .none

end Sys2Proof.Machine
end

