-- ==== Sys2Proof/Machine/Poller.lean ====
section
/-! DEFINITION. The status poller's commands and the receive commands (R200 to R203, R207, R208). -/

namespace Sys2Proof.Machine

/-- CHECK_STATUS_IRQ: one poll (R203). -/
def execCheckStatusIrq (s : State) : Host.Outcome State Fault Refusal :=
  hostCommand s <| runCommand s do
    let (code, v) ← inOneSession poll
    pure (.status code v)

/-- The reply of IS_PACKET for a STATUS byte (R207). -/
def packetReply (v : Byte) : Reply := if rxDrSet v then .available (rxPipeNumber v) else .noPacket

/-- IS_PACKET: one poll, and RX_DR of the byte read (R207). -/
def execIsPacket (s : State) : Host.Outcome State Fault Refusal :=
  hostCommand s <| runCommand s do
    let (_, v) ← inOneSession poll
    pure (packetReply v)

/-- READ_PACKET: one R_RX_PAYLOAD frame; `size` outside 1 to 32 is refused (R208, R226). -/
def execReadPacket (size : Byte) (s : State) : Host.Outcome State Fault Refusal :=
  hostCommand s <|
    if lengthOk size.toNat then
      runCommand s do
        let p ← inOneSession (readRxPayload size.toNat)
        pure (.bytes p)
    else .refused .packetSize

end Sys2Proof.Machine
end

