-- ==== Sys2Proof/Machine/RawRegister.lean ====
section
/-! DEFINITION. The raw register commands (R128 to R132): one session around one framer primitive. None updates a
cache (R255). -/

namespace Sys2Proof.Machine

/-- WRITE_REGISTER; data of length 0 or more than 32 is refused (R128, R226). -/
def execWriteRegister (addr : Byte) (data : List Byte) (s : State) : Host.Outcome State Fault Refusal :=
  hostCommand s <|
    if lengthOk data.length then
      runCommand s do
        inOneSession (writeReg addr data)
        pure .none
    else .refused .dataLength

/-- READ_REGISTER_BYTE (R129). -/
def execReadRegisterByte (addr : Byte) (s : State) : Host.Outcome State Fault Refusal :=
  hostCommand s <| runCommand s do
    let v ← inOneSession (readReg addr)
    pure (.byte v)

/-- READ_REGISTER_BYTES; `n` outside 1 to 32 is refused (R130, R226). -/
def execReadRegisterBytes (addr n : Byte) (s : State) : Host.Outcome State Fault Refusal :=
  hostCommand s <|
    if lengthOk n.toNat then
      runCommand s do
        let vs ← inOneSession (readRegs addr n.toNat)
        pure (.bytes vs)
    else .refused .readCount

/-- FLUSH_TX, the host command (R131). -/
def execFlushTx (s : State) : Host.Outcome State Fault Refusal :=
  hostCommand s <| runCommand s do
    inOneSession flushTxFifo
    pure .none

/-- FLUSH_RX, the host command (R132). -/
def execFlushRx (s : State) : Host.Outcome State Fault Refusal :=
  hostCommand s <| runCommand s do
    inOneSession flushRxFifo
    pure .none

end Sys2Proof.Machine
end

