-- ==== Sys2Proof/Machine/Sequencer.lean ====
section
/-! DEFINITION. The mode sequencer: INITIALISE, STANDBY_MODE, RECEIVER_MODE, SEND_PACKET and the turns of its
completion wait (R140 to R159, R204 to R206). -/

namespace Sys2Proof.Machine

/-- The register sequence of INITIALISE (R146). -/
def initialiseSequence (c : CfgRecord) : Act Reply := do
  inOneSession do
    act (·.waited Config.tPor)
    act (·.driveCE .low)
    act (·.waited Config.tCeCsn)
    act (·.driveCSN .high)
    writeReg Config.regConfig [0x0E]
    act (·.waited Config.tXtal)
    writeReg Config.regEnAa [0x3F]
    writeReg Config.regSetupAw [c.aw]
    writeReg Config.regSetupRetr [c.ard ||| c.arc]
    writeReg Config.regRfCh [c.ch]
    writeReg Config.regRfSetup [c.dr ||| c.pwr]
    writeReg Config.regFeature [0x05]
    writeReg Config.regDynpd [dynpdByte c.dyn]
    writeReg Config.regStatus [0x70]
    flushTxFifo
    flushRxFifo
  act (·.withMode .standbyI)
  pure .none

/-- INITIALISE: validation (R144), commit (R145), sequence (R146). -/
def execInitialise (cfg : CfgOperand) (s : State) : Host.Outcome State Fault Refusal :=
  hostCommand s <|
    if legalCfg (cfgOf cfg) then runCommand (s.committed (cfgOf cfg)) (initialiseSequence (cfgOf cfg))
    else parameterError s

/-- The session of STANDBY_MODE from RX (R148). -/
def standbySequence : Act Unit :=
  inOneSession do
    let v ← readReg Config.regConfig
    writeReg Config.regConfig [v &&& ~~~0x01#8]
    act (·.driveCE .low)
    act (·.waited Config.tMode)
    act (·.withMode .standbyI)

/-- STANDBY_MODE: a no-op unless the mode is RX (R148, R149). -/
def standbyAction (m : Mode) : Act Unit := onlyIf (m == .rx) standbySequence

/-- STANDBY_MODE. -/
def execStandbyMode (s : State) : Host.Outcome State Fault Refusal :=
  hostCommand s <| runCommand s do
    standbyAction s.mode
    pure .none

/-- RECEIVER_MODE (R151 to R153), in any mode (R150). -/
def execReceiverMode (s : State) : Host.Outcome State Fault Refusal :=
  hostCommand s <| runCommand s do
    inOneSession do
      let v ← readReg Config.regConfig
      onlyIf (v &&& 0x01 == 0) (writeReg Config.regConfig [v ||| 0x01])
      let p0 ← look (·.p0)
      onlyIf p0.present (writeReg Config.regRxAddrP0 p0.addr)
      act (·.driveCE .high)
      act (·.waited Config.tMode)
      act (·.withMode .rx)
    pure .none

/-! ### SEND_PACKET -/

/-- STANDBY_MODE as SEND_PACKET's first part, exactly as if the host had issued it (R155): from RX a session of
its own, which ends with `Ok` or raises. -/
def leaveReceiver (m : Mode) : Act Unit :=
  onlyIf (m == .rx) do
    standbyAction m
    act (·.ended .ok .none)

/-- SEND_PACKET up to its completion wait (R154 to R157): the pre-step, the session's start, the payload frame,
the CE pulse. The session stays open for the wait (R158). -/
def sendSequence (m : Mode) (payload : List Byte) : Act Unit := do
  leaveReceiver m
  act (·.openSession)
  writeTxPayload payload
  act fun s => (s.driveCE .high).withMode .tx
  act (·.waited Config.tCePulse)
  act fun s => (s.driveCE .low).withMode .standbyI

/-- The state in which the completion wait starts with no poll made (R205), or the end of the command. -/
def State.startWait (r : EStateM.Result ResultCode State Unit) : State :=
  match r with
  | .ok _ t => t.withPhase (.waiting 0)
  | .error e t => t.raised e

/-- SEND_PACKET: the payload length is 1 to 32, else refused (R154, R226). It leaves the machine in the completion
wait, whose turns are the steps that follow (log entry 5). -/
def execSendPacket (payload : List Byte) (s : State) : Host.Outcome State Fault Refusal :=
  hostCommand s <|
    if lengthOk payload.length then .next (State.startWait (sendSequence s.mode payload s))
    else .refused .payloadLength

/-- How one turn of the wait ends: SEND_PACKET's result, or one more turn. -/
inductive WaitTurn where
  | finished (code : ResultCode)
  | again
  deriving DecidableEq, Repr

/-- The completion of SEND_PACKET when the packet is given up: flush, release (R206, R154). -/
def giveUp (code : ResultCode) : Act WaitTurn := do
  flushTxFifo
  act (·.closeSession)
  pure (.finished code)

/-- One turn of `waitComplete()` having polled `i` times (R205), and what SEND_PACKET does with its answer
(R154). -/
def waitTurn (i : Nat) : Act WaitTurn := do
  let p ← look (·.params)
  if p.pollLimit = some i then giveUp .timeout
  else do
    let (code, s) ← poll
    match completion p.completionTest code s with
    | .sent => do
      act (·.closeSession)
      pure (.finished .ok)
    | .maxrt => giveUp .retryExhausted
    | .keepPolling => pure .again

/-- The state after one turn of the completion wait. -/
def State.continueWait (i : Nat) (r : EStateM.Result ResultCode State WaitTurn) : State :=
  match r with
  | .ok (.finished code) t => t.ended code .none
  | .ok .again t => t.withPhase (.waiting (i + 1))
  | .error e t => t.raised e

/-- One step of SEND_PACKET's completion wait. -/
def stepWait (i : Nat) (s : State) : Host.Outcome State Fault Refusal :=
  .next (State.continueWait i (waitTurn i s))

end Sys2Proof.Machine
end

