-- ==== Sys2Proof/Machine/Setup.lean ====
section
/-! DEFINITION. The addressing and configuration commands (R170 to R194). None reads or writes the mode, drives CE
or waits (R182). -/

namespace Sys2Proof.Machine

/-- RX_DESTINATION's session: the address (R171), the pipe-0 cache (R172), the enable bit (R173). -/
def rxDestinationSequence (pipe : Byte) (a : List Byte) : Act Unit :=
  inOneSession do
    writeReg (rxAddrReg pipe) a
    onlyIf (pipe == 0) (act (·.cacheP0 a))
    let e ← readReg Config.regEnRxaddr
    onlyIf (e &&& pipeBit pipe == 0) (writeReg Config.regEnRxaddr [e ||| pipeBit pipe])

/-- RX_DESTINATION: R170's checks in its order, then the session. -/
def execRxDestination (pipe : Byte) (addr : List Byte) (s : State) : Host.Outcome State Fault Refusal :=
  hostCommand s <|
    if 7 ≤ pipe.toNat then parameterError s
    else if pipe = 6 then .refused .pipeAll
    else if addr.length < addressBytes s.awb pipe then .refused .shortAddress
    else runCommand s do
      rxDestinationSequence pipe (addr.take (addressBytes s.awb pipe))
      pure .none

/-- TX_DESTINATION (R176, R177): TX_ADDR, then RX_ADDR_P0; the pipe-0 cache is not written. -/
def execTxDestination (addr : List Byte) (s : State) : Host.Outcome State Fault Refusal :=
  hostCommand s <|
    if addr.length < s.awb.toNat then .refused .shortAddress
    else runCommand s do
      inOneSession do
        writeReg Config.regTxAddr (addr.take s.awb.toNat)
        writeReg Config.regRxAddrP0 (addr.take s.awb.toNat)
      pure .none

/-- The payload-width writes of PAYLOAD_SIZE (R179): pipes 0 to 5 ascending for `ALL`, else the one pipe. -/
def payloadSizeSequence (pipe size : Byte) : Act Unit :=
  inOneSession do
    if pipe = 6 then do
      writeReg (rxPwReg 0) [size]
      writeReg (rxPwReg 1) [size]
      writeReg (rxPwReg 2) [size]
      writeReg (rxPwReg 3) [size]
      writeReg (rxPwReg 4) [size]
      writeReg (rxPwReg 5) [size]
    else writeReg (rxPwReg pipe) [size]

/-- PAYLOAD_SIZE (R178, R179). -/
def execPayloadSize (pipe size : Byte) (s : State) : Host.Outcome State Fault Refusal :=
  hostCommand s <|
    if legalSize size && legalPipe pipe then
      runCommand s do
        payloadSizeSequence pipe size
        pure .none
    else parameterError s

/-- DYN_PAYLOADS_ENABLE (R180). -/
def execDynPayloadsEnable (s : State) : Host.Outcome State Fault Refusal :=
  hostCommand s <| runCommand (s.withCfg { s.cfg with dyn := 1 }) do
    inOneSession do
      writeReg Config.regFeature [0x05]
      writeReg Config.regDynpd [0x3F]
    pure .none

/-- DYN_PAYLOADS_DISABLE (R181). -/
def execDynPayloadsDisable (s : State) : Host.Outcome State Fault Refusal :=
  hostCommand s <| runCommand (s.withCfg { s.cfg with dyn := 0 }) do
    inOneSession (writeReg Config.regDynpd [0x00])
    pure .none

/-- AUTO_RETRANSMISSION (R184, R185). -/
def execAutoRetransmission (ard arc : Byte) (s : State) : Host.Outcome State Fault Refusal :=
  hostCommand s <|
    if legalArd ard && legalArc arc then
      runCommand (s.withCfg { s.cfg with ard := ard, arc := arc.setWidth 4 }) do
        inOneSession (writeReg Config.regSetupRetr [ard ||| arc])
        pure .none
    else parameterError s

/-- RF_CHANNEL (R188, R189). -/
def execRfChannel (ch : Byte) (s : State) : Host.Outcome State Fault Refusal :=
  hostCommand s <|
    if legalCh ch then
      runCommand (s.withCfg { s.cfg with ch := ch.setWidth 7 }) do
        inOneSession (writeReg Config.regRfCh [ch])
        pure .none
    else parameterError s

/-- RF_DATA_RATE (R190, R191): the power bits come from the cache. -/
def execRfDataRate (dr : Byte) (s : State) : Host.Outcome State Fault Refusal :=
  hostCommand s <|
    if legalDr dr then
      runCommand (s.withCfg { s.cfg with dr := dr }) do
        inOneSession (writeReg Config.regRfSetup [dr ||| s.cfg.pwr])
        pure .none
    else parameterError s

/-- RF_POWER (R193, R194): the data-rate bits come from the cache. -/
def execRfPower (pwr : Byte) (s : State) : Host.Outcome State Fault Refusal :=
  hostCommand s <|
    if legalPwr pwr then
      runCommand (s.withCfg { s.cfg with pwr := pwr }) do
        inOneSession (writeReg Config.regRfSetup [s.cfg.dr ||| pwr])
        pure .none
    else parameterError s

end Sys2Proof.Machine
end

