-- ==== Sys2Proof/Machine/Dispatch.lean ====
section
/-! DEFINITION. The dispatch of an instruction to its meaning (R105). -/

namespace Sys2Proof.Machine

def exec (i : Instr) (s : State) : Host.Outcome State Fault Refusal :=
  match i with
  | .wRegister addr data => Sys2Proof.Machine.execWRegister addr data s
  | .rRegister addr n => Sys2Proof.Machine.execRRegister addr n s
  | .rRxPayload n => Sys2Proof.Machine.execRRxPayload n s
  | .wTxPayload payload => Sys2Proof.Machine.execWTxPayload payload s
  | .flushTxFrame => Sys2Proof.Machine.execFlushTxFrame s
  | .flushRxFrame => Sys2Proof.Machine.execFlushRxFrame s
  | .initialise cfg => Sys2Proof.Machine.execInitialise cfg s
  | .standbyMode => Sys2Proof.Machine.execStandbyMode s
  | .receiverMode => Sys2Proof.Machine.execReceiverMode s
  | .sendPacket payload => Sys2Proof.Machine.execSendPacket payload s
  | .readPacket size => Sys2Proof.Machine.execReadPacket size s
  | .isPacket => Sys2Proof.Machine.execIsPacket s
  | .checkStatusIrq => Sys2Proof.Machine.execCheckStatusIrq s
  | .rxDestination pipe addr => Sys2Proof.Machine.execRxDestination pipe addr s
  | .txDestination addr => Sys2Proof.Machine.execTxDestination addr s
  | .payloadSize pipe size => Sys2Proof.Machine.execPayloadSize pipe size s
  | .dynPayloadsEnable => Sys2Proof.Machine.execDynPayloadsEnable s
  | .dynPayloadsDisable => Sys2Proof.Machine.execDynPayloadsDisable s
  | .autoRetransmission ard arc => Sys2Proof.Machine.execAutoRetransmission ard arc s
  | .rfChannel ch => Sys2Proof.Machine.execRfChannel ch s
  | .rfDataRate dr => Sys2Proof.Machine.execRfDataRate dr s
  | .rfPower pwr => Sys2Proof.Machine.execRfPower pwr s
  | .writeRegister addr data => Sys2Proof.Machine.execWriteRegister addr data s
  | .readRegisterByte addr => Sys2Proof.Machine.execReadRegisterByte addr s
  | .readRegisterBytes addr n => Sys2Proof.Machine.execReadRegisterBytes addr n s
  | .flushTx => Sys2Proof.Machine.execFlushTx s
  | .flushRx => Sys2Proof.Machine.execFlushRx s

end Sys2Proof.Machine
end

