-- ==== Sys2Proof/Machine/Step.lean ====
section
/-! DEFINITION. One step of the machine. -/

namespace Sys2Proof.Machine

/-- While SEND_PACKET waits, a step is one turn of its wait and the port is not read (R12, R205). Otherwise the
next record on the port is decoded and its instruction run (R105); a record that spells none is refused (R226);
with no record the block waits for the host, unchanged (R241). -/
def step (s : State) : Host.Outcome State Fault Refusal :=
  match s.phase with
  | .waiting i => stepWait i s
  | .idle =>
    match s.fetch with
    | none => .next s
    | some (r, s') =>
      match decode r with
      | .ok i => exec i s'
      | .error reason => .refused (.undecodable reason)

/-- The state with a table word's instruction placed where the next step fetches it (log entry 23). -/
def State.withFetchWord (s : State) (nbits w : Nat) : State := s.place (recordOfWord nbits w)

end Sys2Proof.Machine
end

