-- ==== Sys2Proof/Safety.lean ====
section
/-! DEFINITION. The terms claims are made in: what a legal state is, what a legal sequence of bus events is, and
what a command does on the bus written as a list of items, apart from the meanings. -/

namespace Sys2Proof.Safety

open Sys2Proof.Machine

/-! ### Legal states -/

/-- The legal values of the configuration cache (R20). -/
def cfgLegal (c : Cfg) : Prop :=
  c.aw ≠ 0 ∧ c.ard ∈ [0x00#8, 0x10#8, 0x20#8, 0x30#8] ∧ c.dr ∈ [0x00#8, 0x08#8, 0x20#8] ∧
    c.pwr ∈ [0x00#8, 0x02#8, 0x04#8, 0x06#8] ∧ 2 ≤ c.ch.toNat ∧ c.ch.toNat ≤ 125

/-- What holds of the block between two steps. -/
structure BlockInv (s : State) : Prop where
  /-- Every cached value is legal (R20). -/
  cache : cfgLegal s.cfg
  /-- `st.awb` is always `st.cfg.aw + 2` (R31). -/
  width : s.awb.toNat = s.cfg.aw.toNat + 2
  /-- A cached pipe-0 address, when present, has exactly `st.awb` bytes (R31). -/
  pipe0 : s.p0.present = true → s.p0.addr.length = s.awb.toNat
  /-- `TX` is held only during the CE pulse (R23). -/
  mode : s.mode ≠ .tx
  /-- `ModeError` is never produced (R227). -/
  result : s.result ≠ .modeError
  /-- A session is open exactly while a command runs (R140). -/
  session : s.inSession = true ↔ s.phase ≠ .idle
  /-- While SEND_PACKET waits the mode is StandbyI and CE is low (R157, R249). -/
  wait : s.phase ≠ .idle → s.mode = .standbyI ∧ s.ce = .low
  /-- Once the block has emitted an event, CSN is high between steps (R120, R146). -/
  csn : s.trace ≠ [] → s.csn = .high

/-! ### Legal bus traces -/

/-- The frames the block may send (R133): `nop` is `NOP_BYTE`. -/
def frameLegal (nop : Byte) : List Byte → Bool
  | [] => false
  | c :: data =>
    if c == 0xE1 || c == 0xE2 then data.isEmpty
    else if c == 0x61 || c &&& 0xE0 == 0x00 then lengthOk data.length && data.all (· == nop)
    else if c == 0xA0 || c &&& 0xE0 == 0x20 then lengthOk data.length
    else false

/-- An answer of a transfer has as many bytes as were sent (R54). -/
def answerFits (tx : List Byte) : XferResult → Bool
  | .ok rx => rx.length == tx.length
  | .short => true

/-- Where the bus stands after a part of the trace. -/
inductive Bus where
  /-- No session is open. -/
  | closed
  /-- A session is open and no frame is under way. -/
  | held
  /-- CSN is low and the frame's transfer has not happened. -/
  | selected
  /-- The frame's transfer has happened, completely or not. -/
  | moved (complete : Bool)
  /-- A frame failed: only the end of the session may follow (R142). -/
  | failed
  deriving DecidableEq, Repr

/-- The events the rules allow after one another: sessions do not nest and are closed after a failing frame at
once (R140 to R143, R224), a frame is CSN low, one transfer, CSN high (R120), everything else stands between the
frames of a session. -/
def busStep (nop : Byte) : Bus → Event → Option Bus
  | .closed, .acquire _ => some .held
  | .held, .release => some .closed
  | .held, .setCE _ => some .held
  | .held, .wait _ => some .held
  | .held, .setCSN .high => some .held
  | .held, .setCSN .low => some .selected
  | .selected, .xfer tx r =>
    if frameLegal nop tx && answerFits tx r then some (.moved (r != .short)) else none
  | .moved true, .setCSN .high => some .held
  | .moved false, .setCSN .high => some .failed
  | .failed, .release => some .closed
  | _, _ => none

/-- Where the bus stands after a list of events, if the rules allow them. -/
def busRun (nop : Byte) : Bus → List Event → Option Bus
  | b, [] => some b
  | b, e :: later =>
    match busStep nop b e with
    | some b' => busRun nop b' later
    | none => none

/-- The whole trace is allowed, and the session is open exactly when `st.inSession` says so. -/
def BusProtocol (s : State) : Prop :=
  busRun s.params.nopByte .closed s.trace = some (if s.inSession then .held else .closed)

/-! ### What the events say of the outputs and the session -/

/-- The level of CSN after some events: the one last driven (R34). -/
def csnAfter : List Event → Level → Level
  | [], l => l
  | .setCSN l' :: later, _ => csnAfter later l'
  | .acquire _ :: later, l => csnAfter later l
  | .release :: later, l => csnAfter later l
  | .setCE _ :: later, l => csnAfter later l
  | .xfer _ _ :: later, l => csnAfter later l
  | .wait _ :: later, l => csnAfter later l

/-- The level of CE after some events: the one last driven (R34). -/
def ceAfter : List Event → Level → Level
  | [], l => l
  | .setCE l' :: later, _ => ceAfter later l'
  | .acquire _ :: later, l => ceAfter later l
  | .release :: later, l => ceAfter later l
  | .setCSN _ :: later, l => ceAfter later l
  | .xfer _ _ :: later, l => ceAfter later l
  | .wait _ :: later, l => ceAfter later l

/-- Whether a session is open after some events: between an Acquire and the next Release (R35). -/
def sessionAfter : List Event → Bool → Bool
  | [], b => b
  | .acquire _ :: later, _ => sessionAfter later true
  | .release :: later, _ => sessionAfter later false
  | .setCE _ :: later, b => sessionAfter later b
  | .setCSN _ :: later, b => sessionAfter later b
  | .xfer _ _ :: later, b => sessionAfter later b
  | .wait _ :: later, b => sessionAfter later b

/-! ### Operand domains (R102) -/

/-- Every field of a configuration record in its domain (R102, R144). -/
def cfgInDomain (c : CfgRecord) : Prop :=
  c.aw ∈ [0x01#8, 0x02#8, 0x03#8] ∧ (2 ≤ c.ch.toNat ∧ c.ch.toNat ≤ 125) ∧ c.dr ∈ [0x00#8, 0x08#8, 0x20#8] ∧
    c.pwr ∈ [0x00#8, 0x02#8, 0x04#8, 0x06#8] ∧ c.ard ∈ [0x00#8, 0x10#8, 0x20#8, 0x30#8] ∧ c.arc.toNat ≤ 15 ∧
    c.dyn ∈ [0x00#8, 0x01#8]

/-- The causes of `ParameterError`, exhaustively (R221). -/
def operandOutOfDomain : Instr → Prop
  | .initialise (.record c) => ¬cfgInDomain c
  | .rxDestination pipe _ => 7 ≤ pipe.toNat
  | .payloadSize pipe size => size.toNat < 1 ∨ 32 < size.toNat ∨ 7 ≤ pipe.toNat
  | .autoRetransmission ard arc => ard ∉ [0x00#8, 0x10#8, 0x20#8, 0x30#8] ∨ 15 < arc.toNat
  | .rfChannel ch => ch.toNat < 2 ∨ 125 < ch.toNat
  | .rfDataRate dr => dr ∉ [0x00#8, 0x08#8, 0x20#8]
  | .rfPower pwr => pwr ∉ [0x00#8, 0x02#8, 0x04#8, 0x06#8]
  | .initialise .defaultCfg => False
  | .wRegister _ _ | .rRegister _ _ | .rRxPayload _ | .wTxPayload _ | .flushTxFrame | .flushRxFrame => False
  | .standbyMode | .receiverMode | .sendPacket _ | .readPacket _ | .isPacket | .checkStatusIrq => False
  | .txDestination _ | .dynPayloadsEnable | .dynPayloadsDisable => False
  | .writeRegister _ _ | .readRegisterByte _ | .readRegisterBytes _ _ | .flushTx | .flushRx => False

/-- A host command, not a frame of the framer's (R101). -/
def isHostCommand (i : Instr) : Prop := (encode 0 i).space = .host

/-- The nine addressing and configuration commands of 42_config.md (R182). -/
def isSetupCommand : Instr → Prop
  | .rxDestination _ _ | .txDestination _ | .payloadSize _ _ | .dynPayloadsEnable | .dynPayloadsDisable => True
  | .autoRetransmission _ _ | .rfChannel _ | .rfDataRate _ | .rfPower _ => True
  | .wRegister _ _ | .rRegister _ _ | .rRxPayload _ | .wTxPayload _ | .flushTxFrame | .flushRxFrame => False
  | .initialise _ | .standbyMode | .receiverMode | .sendPacket _ | .readPacket _ | .isPacket => False
  | .checkStatusIrq | .writeRegister _ _ | .readRegisterByte _ | .readRegisterBytes _ _ | .flushTx => False
  | .flushRx => False

/-- The four commands of the mode sequencer (R24). -/
def isModeCommand : Instr → Prop
  | .initialise _ | .standbyMode | .receiverMode | .sendPacket _ => True
  | .wRegister _ _ | .rRegister _ _ | .rRxPayload _ | .wTxPayload _ | .flushTxFrame | .flushRxFrame => False
  | .readPacket _ | .isPacket | .checkStatusIrq | .rxDestination _ _ | .txDestination _ => False
  | .payloadSize _ _ | .dynPayloadsEnable | .dynPayloadsDisable | .autoRetransmission _ _ => False
  | .rfChannel _ | .rfDataRate _ | .rfPower _ | .writeRegister _ _ | .readRegisterByte _ => False
  | .readRegisterBytes _ _ | .flushTx | .flushRx => False

/-! ### Commands as lists of items -/

/-- What a command does inside a session. -/
inductive Item where
  | send (tx : List Byte)
  | ce (level : Level)
  | csn (level : Level)
  | pause (bound : Nat)
  deriving DecidableEq, Repr

/-- What comes of a list of items: the events, whether every frame was answered in full, and the environment
afterwards. -/
structure Played where
  events   : List Event
  complete : Bool
  env      : Env
  deriving DecidableEq, Repr

/-- The events of one frame (R120). -/
def frameEvents (tx : List Byte) (r : XferResult) : List Event :=
  [.setCSN .low, .xfer tx r, .setCSN .high]

/-- The items in order, each frame answered by the environment; a `short` answer ends it there (R224). -/
def play : List Item → Env → Played
  | [], e => ⟨[], true, e⟩
  | .send tx :: later, e =>
    match e.answer tx with
    | (.ok rx, e') => ⟨frameEvents tx (.ok rx) ++ (play later e').events, (play later e').complete, (play later e').env⟩
    | (.short, e') => ⟨frameEvents tx .short, false, e'⟩
  | .ce l :: later, e =>
    ⟨.setCE l :: (play later (e.onCE l)).events, (play later (e.onCE l)).complete, (play later (e.onCE l)).env⟩
  | .csn l :: later, e => ⟨.setCSN l :: (play later e).events, (play later e).complete, (play later e).env⟩
  | .pause b :: later, e => ⟨.wait b :: (play later e).events, (play later e).complete, (play later e).env⟩

/-- The bytes received by one frame in an environment; none where it is answered `short`. -/
def received (e : Env) (tx : List Byte) : Option (List Byte) :=
  match (e.answer tx).1 with
  | .ok rx => some rx
  | .short => none

/-- Byte 1 of the answer to a two-byte read, the value read (R122); 0 where the frame fails. -/
def valueRead (e : Env) (tx : List Byte) : Byte := ((received e tx).getD []).getD 1 0

/-- The state after a command that is one session of `items`, from the state `s` (R140 to R142, R224): the session's
events, CSN high, and `Ok` with the data `reply` or `BusError` with none. -/
def afterSession (s : State) (items : List Item) (reply : Reply) : State :=
  { s with
    csn := .high
    inSession := false
    env := (play items s.env).env
    trace := s.trace ++ (.acquire s.params.baud :: (play items s.env).events ++ [.release])
    result := if (play items s.env).complete then .ok else .busError
    reply := if (play items s.env).complete then reply else .none
    phase := .idle }

/-- The state after a session already open is ended by `items` with the result `code`, or with `BusError` (R142, R154,
R224). -/
def sessionEnd (s : State) (items : List Item) (code : ResultCode) : State :=
  { s with
    csn := .high
    inSession := false
    env := (play items s.env).env
    trace := s.trace ++ ((play items s.env).events ++ [.release])
    result := if (play items s.env).complete then code else .busError
    reply := .none
    phase := .idle }

/-- The state after a frame run as an instruction in an open session: the frame's events, and its data or, where the
answer is `short`, the exit actions (R120, R224). -/
def afterFrame (s : State) (tx : List Byte) (reply : List Byte → Reply) : State :=
  match s.env.answer tx with
  | (.ok rx, e') =>
    { s with csn := .high, env := e', trace := s.trace ++ frameEvents tx (.ok rx), reply := reply rx }
  | (.short, e') =>
    { s with
      csn := .high, env := e', trace := s.trace ++ (frameEvents tx .short ++ [.release]), inSession := false
      result := .busError, reply := .none, phase := .idle }

/-- The latch-clearing frames of one poll that read `v` (R200, R201). -/
def clears (v : Byte) : List Item :=
  (if v.getLsbD 6 then [.send [0x27, 0x40]] else []) ++ (if v.getLsbD 5 then [.send [0x27, 0x20]] else []) ++
    (if v.getLsbD 4 then [.send [0x27, 0x10]] else [])

/-- The frames of one poll that reads STATUS as `v` (R200). -/
def pollItems (nop v : Byte) : List Item := .send [0x07, nop] :: clears v

/-- STATUS as a poll in this environment reads it. -/
def statusRead (nop : Byte) (e : Env) : Byte := valueRead e [0x07, nop]

/-- `st.lastStatus` after a poll: the byte read, where the read succeeded (R200). -/
def lastStatusAfterPoll (s : State) : Byte :=
  if (received s.env [0x07, s.params.nopByte]).isSome then statusRead s.params.nopByte s.env else s.lastStatus

/-- The last frame of a trace that writes the register with write command byte `c`. -/
def lastWrite (c : Byte) : List Event → Option (List Byte)
  | [] => none
  | .xfer (b :: v) (.ok _) :: later =>
    match lastWrite c later with
    | some w => some w
    | none => if b = c then some v else none
  | _ :: later => lastWrite c later

/-! ### Safe runs -/

/-- A step is safe when it is not refused: the host issued a command that has a meaning (R226). A step of this
machine never ends in a fault. -/
def stepSafe (s : State) : Prop := ∃ t, step s = .next t

end Sys2Proof.Safety
end

