-- ==== Sys2Proof/Certificates/Slice0/Obligations.lean ====
section
/-! DEFINITION. The statements for the provers. In every equation for a next state the fields `env`, `reply` and
`phase` are the model's own (log entries 5, 7, 14); everything the equation does not name is unchanged, which is the
instruction's frame. -/

open Sys2Proof Sys2Proof.Machine Sys2Proof.Safety

/-! ### Encodings -/

/-- R80, R101: records written out from the tables decode to the instructions they stand for. -/
def Obligations.TableBytesDecode : Prop :=
  decode ⟨.framer, [0x25, 0x6E]⟩ = .ok (.wRegister 0x05 [0x6E]) ∧
  decode ⟨.framer, [0x07, 0xFF]⟩ = .ok (.rRegister 0x07 1) ∧
  decode ⟨.framer, [0x61, 0xFF, 0xFF]⟩ = .ok (.rRxPayload 2) ∧
  decode ⟨.framer, [0xA0, 0x01, 0x02]⟩ = .ok (.wTxPayload [0x01, 0x02]) ∧
  decode ⟨.framer, [0xE1]⟩ = .ok .flushTxFrame ∧
  decode ⟨.framer, [0xE2]⟩ = .ok .flushRxFrame ∧
  decode ⟨.host, [0x01]⟩ = .ok (.initialise .defaultCfg) ∧
  decode ⟨.host, [0x0E, 0x4C]⟩ = .ok (.rfChannel 0x4C) ∧
  decode ⟨.host, [0x08, 0x04, 0xCA]⟩ = .ok (.rxDestination 0x04 [0xCA]) ∧
  decode ⟨.host, [0x07]⟩ = .ok .checkStatusIrq ∧
  decode ⟨.host, [0x22, 0x0E, 0x05]⟩ = .ok (.readRegisterBytes 0x0E 0x05)

/-- Decode and encode agree on every well-formed instruction, whatever the filler byte: no operand bit is lost. The
operand layout of host records is the model's (log entry 1), and so is the disregard of filler bytes (log entry 21). -/
def Obligations.DecodeOfEncodedInstruction : Prop :=
  ∀ (nop : Byte) (i : Instr), i.wellFormed = true → decode (encode nop i) = .ok i

/-- Each host record has one meaning: what decodes is the encoding of what it decodes to (layout: log entry 1). -/
def Obligations.DecodedHostRecordIsItsEncoding : Prop :=
  ∀ (nop : Byte) (bytes : List Byte) (i : Instr), decode ⟨.host, bytes⟩ = .ok i → encode nop i = ⟨.host, bytes⟩

/-- Each frame has one meaning: a frame that decodes, with filler bytes where the block sends them, is the encoding of
what it decodes to (R80 to R85). -/
def Obligations.DecodedFrameIsItsEncoding : Prop :=
  ∀ (nop c : Byte) (data : List Byte) (i : Instr), decode ⟨.framer, c :: data⟩ = .ok i →
    (c &&& 0xE0 = 0x00 ∨ c = 0x61 → ∀ b ∈ data, b = nop) → encode nop i = ⟨.framer, c :: data⟩

/-! ### The step and the host -/

/-- R105: when no command runs, a step takes the next record off the port and is `exec` of the instruction it spells.
The port is the model's (log entry 2). -/
def Obligations.StepRunsDecodedInstruction : Prop :=
  ∀ (s : State) (r : Record) (later : List Record) (i : Instr), s.phase = .idle → s.port = r :: later →
    decode r = .ok i → step s = exec i { s with port := later }

/-- R241: with no command issued the block waits, unchanged (as a step of its own: log entry 2). -/
def Obligations.StepWaitsForHost : Prop :=
  ∀ s : State, s.phase = .idle → s.port = [] → step s = .next s

/-- R12: commands never overlap. While SEND_PACKET waits no host command has a meaning (the refusal is the model's, log
entry 6), and a step reads nothing off the port. -/
def Obligations.CommandsNeverOverlap : Prop :=
  (∀ (i : Instr) (s : State), isHostCommand i → s.phase ≠ .idle → exec i s = .refused .overlappingCommand) ∧
  (∀ s t : State, s.phase ≠ .idle → step s = .next t → t.port = s.port)

/-- R240: the state after block reset; CE and CSN are free draws there. -/
def Obligations.ResetState : Prop :=
  State.reset.mode = .pd ∧
  State.reset.cfg = { aw := 3, dyn := 0, ard := 0x10, arc := 10, dr := 0x00, pwr := 0x06, ch := 110 } ∧
  State.reset.awb = 5 ∧ State.reset.p0.present = false ∧ State.reset.lastStatus = 0x00 ∧
  State.reset.inSession = false ∧ State.reset.result = .ok ∧ State.reset.trace = []

/-- The invariants hold at reset. -/
def Obligations.ResetMeetsInvariants : Prop :=
  BlockInv State.reset ∧ BusProtocol State.reset

/-! ### Whole-machine statements -/

/-- Every step keeps the block invariant: legal cache values (R20), `st.awb` = `st.cfg.aw` + 2 and a cached address of
that width (R31), no `TX` between steps (R23), no `ModeError` (R227), a session exactly while a command runs (R140), CE
low and StandbyI during the wait (R157), CSN high between steps (R120). -/
def Obligations.StepKeepsBlockInvariant : Prop :=
  ∀ s t : State, BlockInv s → step s = .next t → BlockInv t

/-- Every step keeps the bus protocol: every frame the block ever sends is a legal one, in its own chip-select bracket,
in a session, sessions never nest, and nothing but the release follows a failing frame (R120, R133, R140 to R143). -/
def Obligations.StepKeepsBusProtocol : Prop :=
  ∀ s t : State, BlockInv s → BusProtocol s → step s = .next t → BusProtocol t

/-- The trace only grows, and no step changes a parameter (R10, R39, R60). -/
def Obligations.StepExtendsTrace : Prop :=
  ∀ s t : State, step s = .next t → (∃ events, t.trace = s.trace ++ events) ∧ t.params = s.params

/-- R24: the mode is written only by INITIALISE, STANDBY_MODE, RECEIVER_MODE and SEND_PACKET, and by no poll. -/
def Obligations.ModeWrittenOnlyBySequencer : Prop :=
  (∀ (i : Instr) (s t : State), ¬isModeCommand i → exec i s = .next t → t.mode = s.mode) ∧
  (∀ s t : State, s.phase ≠ .idle → step s = .next t → t.mode = s.mode)

/-- The writers R20 lists under an instruction, for the caches, the widths, `st.lastStatus` and `st.ce`: what any other
instruction leaves unchanged. The other fields: ModeWrittenOnlyBySequencer, LevelsAndSessionFollowEvents,
ResultWrittenAtCommandEnd; the turns of the wait: WaitTurnFrame. -/
def Obligations.FieldsHaveOnlyTheirWriters : Prop :=
  ∀ (i : Instr) (s t : State), exec i s = .next t →
    ((∀ c, i ≠ .initialise c) → t.awb = s.awb ∧ t.cfg.aw = s.cfg.aw) ∧
    ((∀ c, i ≠ .initialise c) → i ≠ .dynPayloadsEnable → i ≠ .dynPayloadsDisable → t.cfg.dyn = s.cfg.dyn) ∧
    ((∀ c, i ≠ .initialise c) → (∀ a b, i ≠ .autoRetransmission a b) →
      t.cfg.ard = s.cfg.ard ∧ t.cfg.arc = s.cfg.arc) ∧
    ((∀ c, i ≠ .initialise c) → (∀ a, i ≠ .rfDataRate a) → t.cfg.dr = s.cfg.dr) ∧
    ((∀ c, i ≠ .initialise c) → (∀ a, i ≠ .rfPower a) → t.cfg.pwr = s.cfg.pwr) ∧
    ((∀ c, i ≠ .initialise c) → (∀ a, i ≠ .rfChannel a) → t.cfg.ch = s.cfg.ch) ∧
    ((∀ c, i ≠ .initialise c) → (∀ a, i ≠ .rxDestination 0 a) → t.p0 = s.p0) ∧
    (i ≠ .isPacket → i ≠ .checkStatusIrq → t.lastStatus = s.lastStatus) ∧
    (¬isModeCommand i → t.ce = s.ce) ∧ t.port = s.port ∧ t.params = s.params

/-- R182: no configuration command reads the mode (with another mode held it does the same and leaves that mode), drives
CE or waits. -/
def Obligations.SetupCommandsIgnoreMode : Prop :=
  ∀ (i : Instr) (s t : State), isSetupCommand i → exec i s = .next t →
    t.mode = s.mode ∧ t.ce = s.ce ∧ (∀ m, exec i { s with mode := m } = .next { t with mode := m }) ∧
    ∃ events, t.trace = s.trace ++ events ∧ ∀ e ∈ events, (∀ l, e ≠ .setCE l) ∧ (∀ b, e ≠ .wait b)

/-- R54: an answer that counts as `ok` has as many bytes as were sent. -/
def Obligations.TransferAnswersInFull : Prop :=
  ∀ (e e' : Env) (tx rx : List Byte), e.answer tx = (.ok rx, e') → rx.length = tx.length

/-! ### Refusals and parameter errors -/

/-- R226: the refused forms. A refusal holds no state, so a refused command emits nothing and changes nothing. -/
def Obligations.RefusedForms : Prop :=
  ∀ s : State, s.phase = .idle →
    (∀ (code : Byte) (ops : List Byte) (later : List Record), s.port = ⟨.host, code :: ops⟩ :: later →
      (code.toNat = 0 ∨ (0x11 ≤ code.toNat ∧ code.toNat ≤ 0x1F) ∨ 0x25 ≤ code.toNat) →
      step s = .refused (.undecodable (.unassignedCode code))) ∧
    (∀ addr, exec (.rxDestination 6 addr) s = .refused .pipeAll) ∧
    (∀ (pipe : Byte) (addr : List Byte), pipe.toNat ≤ 1 → addr.length < s.awb.toNat →
      exec (.rxDestination pipe addr) s = .refused .shortAddress) ∧
    (∀ pipe : Byte, 2 ≤ pipe.toNat → pipe.toNat ≤ 5 → exec (.rxDestination pipe []) s = .refused .shortAddress) ∧
    (∀ addr : List Byte, addr.length < s.awb.toNat → exec (.txDestination addr) s = .refused .shortAddress) ∧
    (∀ p : List Byte, p.length = 0 ∨ 32 < p.length → exec (.sendPacket p) s = .refused .payloadLength) ∧
    (∀ (a : Byte) (d : List Byte), d.length = 0 ∨ 32 < d.length →
      exec (.writeRegister a d) s = .refused .dataLength) ∧
    (∀ size : Byte, size.toNat = 0 ∨ 32 < size.toNat → exec (.readPacket size) s = .refused .packetSize) ∧
    (∀ a n : Byte, n.toNat = 0 ∨ 32 < n.toNat → exec (.readRegisterBytes a n) s = .refused .readCount)

/-- R221: `ParameterError` comes from exactly the listed operands, and writes nothing but the result (and empties the
reply, log entry 14). -/
def Obligations.ParameterErrorCauses : Prop :=
  (∀ (i : Instr) (s : State), s.phase = .idle → operandOutOfDomain i →
    exec i s = .next { s with result := .parameterError, reply := .none }) ∧
  (∀ (i : Instr) (s t : State), exec i s = .next t → t.result = .parameterError → s.result ≠ .parameterError →
    operandOutOfDomain i)

/-- R54, R120: a frame outside a session is refused; so is one whose data length is not 1 to 32 (R57). -/
def Obligations.FramePreconditions : Prop :=
  (∀ (i : Instr) (s : State), ¬isHostCommand i → s.inSession = false → exec i s = .refused .frameOutsideSession) ∧
  (∀ (i : Instr) (s : State), ¬isHostCommand i → s.inSession = true → i.wellFormed = false →
    exec i s = .refused .frameLength)

/-! ### Frames as instructions -/

/-- R121, R124 (with R120 and R224): the write frames. -/
def Obligations.WriteFrameEffect : Prop :=
  ∀ s : State, s.inSession = true →
    (∀ (a : BitVec 5) (v : List Byte), 1 ≤ v.length → v.length ≤ 32 →
      exec (.wRegister a v) s = .next (afterFrame s ((0b001#3 ++ a) :: v) fun _ => .none)) ∧
    (∀ p : List Byte, 1 ≤ p.length → p.length ≤ 32 →
      exec (.wTxPayload p) s = .next (afterFrame s (0xA0 :: p) fun _ => .none))

/-- R123, R125 (with R120 and R224): the read frames return the received bytes after the status echo. -/
def Obligations.ReadFrameEffect : Prop :=
  ∀ (s : State) (n : Nat), s.inSession = true → 1 ≤ n → n ≤ 32 →
    (∀ a : BitVec 5, exec (.rRegister a n) s =
      .next (afterFrame s ((0b000#3 ++ a) :: List.replicate n s.params.nopByte) fun rx => .bytes (rx.drop 1))) ∧
    exec (.rRxPayload n) s =
      .next (afterFrame s (0x61 :: List.replicate n s.params.nopByte) fun rx => .bytes (rx.drop 1))

/-- R126, R127 (with R120 and R224): the flush frames are one byte. -/
def Obligations.FlushFrameEffect : Prop :=
  ∀ s : State, s.inSession = true →
    exec .flushTxFrame s = .next (afterFrame s [0xE1] fun _ => .none) ∧
    exec .flushRxFrame s = .next (afterFrame s [0xE2] fun _ => .none)

/-! ### Raw register commands -/

/-- R128: WRITE_REGISTER is one session of one frame, the address reduced to its low five bits; no cache changes. Data of
any other length is refused. -/
def Obligations.WriteRegisterEffect : Prop :=
  ∀ (s : State) (addr : Byte) (v : List Byte), s.phase = .idle →
    (1 ≤ v.length → v.length ≤ 32 →
      exec (.writeRegister addr v) s = .next (afterSession s [.send (((addr &&& 0x1F) ||| 0x20) :: v)] .none)) ∧
    (v.length = 0 ∨ 32 < v.length → exec (.writeRegister addr v) s = .refused .dataLength)

/-- R129, R130: the raw reads are one session of one frame and return the bytes after the status echo; a count outside 1 to
32 is refused. -/
def Obligations.ReadRegisterEffect : Prop :=
  ∀ (s : State) (addr : Byte), s.phase = .idle →
    exec (.readRegisterByte addr) s = .next (afterSession s [.send [addr &&& 0x1F, s.params.nopByte]]
      (.byte (valueRead s.env [addr &&& 0x1F, s.params.nopByte]))) ∧
    (∀ n : Byte, 1 ≤ n.toNat → n.toNat ≤ 32 →
      exec (.readRegisterBytes addr n) s = .next (afterSession s
        [.send ((addr &&& 0x1F) :: List.replicate n.toNat s.params.nopByte)]
        (.bytes (((received s.env ((addr &&& 0x1F) :: List.replicate n.toNat s.params.nopByte)).getD []).drop 1)))) ∧
    (∀ n : Byte, n.toNat = 0 ∨ 32 < n.toNat → exec (.readRegisterBytes addr n) s = .refused .readCount)

/-- R131, R132: the flush commands are one session of one one-byte frame. -/
def Obligations.FlushCommandEffect : Prop :=
  ∀ s : State, s.phase = .idle →
    exec .flushTx s = .next (afterSession s [.send [0xE1]] .none) ∧
    exec .flushRx s = .next (afterSession s [.send [0xE2]] .none)

/-! ### The mode sequencer -/

/-- R144 to R147: INITIALISE with a configuration in its domain, with one out of it, and with `default` (R103). -/
def Obligations.InitialiseEffect : Prop :=
  (∀ (s : State) (c : CfgRecord), s.phase = .idle → cfgInDomain c →
    let items : List Item :=
      [.pause 100000, .ce .low, .pause 1000, .csn .high, .send [0x20, 0x0E], .pause 5000, .send [0x21, 0x3F],
       .send [0x23, c.aw], .send [0x24, c.ard ||| c.arc], .send [0x25, c.ch], .send [0x26, c.dr ||| c.pwr],
       .send [0x3D, 0x05], .send [0x3C, if c.dyn = 1 then 0x3F else 0x00], .send [0x27, 0x70], .send [0xE1],
       .send [0xE2]]
    exec (.initialise (.record c)) s = .next
      { afterSession s items .none with
        mode := if (play items s.env).complete then .standbyI else s.mode
        ce := .low
        cfg := { aw := c.aw.setWidth 2, dyn := c.dyn.setWidth 1, ard := c.ard, arc := c.arc.setWidth 4, dr := c.dr
                 pwr := c.pwr, ch := c.ch.setWidth 7 }
        awb := c.aw.setWidth 3 + 2
        p0 := { present := s.p0.present && c.aw.toNat == s.cfg.aw.toNat, addr := s.p0.addr } }) ∧
  (∀ (s : State) (c : CfgRecord), s.phase = .idle → ¬cfgInDomain c →
    exec (.initialise (.record c)) s = .next { s with result := .parameterError, reply := .none }) ∧
  (∀ s : State, exec (.initialise .defaultCfg) s = exec (.initialise (.record
    { aw := 3, ch := 110, dr := 0x00, pwr := 0x06, ard := 0x10, arc := 10, dyn := 0 })) s)

/-- R148, R149: STANDBY_MODE from RX, and its no-op from every other mode. -/
def Obligations.StandbyModeEffect : Prop :=
  (∀ s : State, s.phase = .idle → s.mode = .rx →
    let items : List Item :=
      [.send [0x00, s.params.nopByte], .send [0x20, valueRead s.env [0x00, s.params.nopByte] &&& 0xFE], .ce .low,
       .pause 130]
    exec .standbyMode s = .next
      { afterSession s items .none with
        mode := if (play items s.env).complete then .standbyI else .rx
        ce := if (play items s.env).complete then .low else s.ce }) ∧
  (∀ s : State, s.phase = .idle → s.mode ≠ .rx →
    exec .standbyMode s = .next { s with result := .ok, reply := .none })

/-- R151, R152: RECEIVER_MODE in any mode (R150): PRIM_RX is set only where the read shows it clear, the cached pipe-0
address is written back where present. -/
def Obligations.ReceiverModeEffect : Prop :=
  ∀ s : State, s.phase = .idle →
    let v := valueRead s.env [0x00, s.params.nopByte]
    let items : List Item :=
      [.send [0x00, s.params.nopByte]] ++ (if v.getLsbD 0 then [] else [.send [0x20, v ||| 0x01]]) ++
        (if s.p0.present then [.send (0x2A :: s.p0.addr)] else []) ++ [.ce .high, .pause 130]
    exec .receiverMode s = .next
      { afterSession s items .none with
        mode := if (play items s.env).complete then .rx else s.mode
        ce := if (play items s.env).complete then .high else s.ce }

/-- R154, R156, R157: SEND_PACKET from a mode other than RX sends the payload frame, pulses CE and enters its wait with
the session open (log entry 5); a failing payload frame ends it with no pulse. -/
def Obligations.SendPacketEffect : Prop :=
  ∀ (s : State) (p : List Byte), s.phase = .idle → s.mode ≠ .rx → 1 ≤ p.length → p.length ≤ 32 →
    let items : List Item := [.send (0xA0 :: p), .ce .high, .pause 10, .ce .low]
    exec (.sendPacket p) s = .next
      (if (play items s.env).complete then
        { s with
          mode := .standbyI, ce := .low, csn := .high, inSession := true, phase := .waiting 0
          env := (play items s.env).env
          trace := s.trace ++ .acquire s.params.baud :: (play items s.env).events }
      else afterSession s items .none)

/-- R155, R143: from RX, SEND_PACKET first is STANDBY_MODE, a session of its own, and ends with it where that fails. -/
def Obligations.SendPacketLeavesReceiver : Prop :=
  ∀ (s u : State) (p : List Byte), s.mode = .rx → 1 ≤ p.length → p.length ≤ 32 → exec .standbyMode s = .next u →
    (u.result = .ok → exec (.sendPacket p) s = exec (.sendPacket p) u) ∧
    (u.result ≠ .ok → exec (.sendPacket p) s = .next u ∧ u.result = .busError ∧ u.mode = .rx)

/-- R200, R204, R205, R206: one turn of SEND_PACKET's wait, for both completion tests and every poll limit. -/
def Obligations.WaitTurnEffect : Prop :=
  ∀ (s : State) (i : Nat), s.phase = .waiting i → s.inSession = true →
    let v := statusRead s.params.nopByte s.env
    let polled := pollItems s.params.nopByte v
    let seen : Bool := s.params.completionTest = .set || !v.getLsbD 6
    let t : State := { s with lastStatus := lastStatusAfterPoll s }
    step s = .next
      (if s.params.pollLimit = some i then sessionEnd s [.send [0xE1]] .timeout
      else if (play polled s.env).complete = false then sessionEnd t polled .busError
      else if v.getLsbD 5 && seen then sessionEnd t polled .ok
      else if v.getLsbD 4 && seen then sessionEnd t (polled ++ [.send [0xE1]]) .retryExhausted
      else
        { t with
          csn := .high, phase := .waiting (i + 1), env := (play polled s.env).env
          trace := s.trace ++ (play polled s.env).events })

/-- R205: where no limit is set and TX_DS alone is first read at the N-th poll, the wait ends with `Ok` after exactly N
polls and clears only that latch. -/
def Obligations.SendEndsAtNthPoll : Prop :=
  ∀ (s : State) (k : Nat) (quiet : List (Byte × Byte)) (echo v : Byte) (w : List Byte) (later : List XferResult),
    s.phase = .waiting k → s.inSession = true → s.params.pollLimit = none →
    (∀ q ∈ quiet, q.2 &&& 0x70 = 0x00) → v &&& 0x70 = 0x20 → w.length = 2 →
    s.env.answers = quiet.map (fun q => .ok [q.1, q.2]) ++ .ok [echo, v] :: .ok w :: later →
    core.run (quiet.length + 1) s = .next
      { s with
        lastStatus := v, csn := .high, inSession := false, result := .ok, reply := .none, phase := .idle
        env := { s.env with answers := later }
        trace := s.trace ++ (quiet.flatMap fun q => frameEvents [0x07, s.params.nopByte] (.ok [q.1, q.2])) ++
          frameEvents [0x07, s.params.nopByte] (.ok [echo, v]) ++ frameEvents [0x27, 0x20] (.ok w) ++ [.release] }

/-- R252: with no limit, a wait whose every poll reads no latch goes on, however many polls it makes: the infinite run
is in the model. -/
def Obligations.WaitWithoutLatchGoesOn : Prop :=
  ∀ (s : State) (k : Nat) (quiet : List (Byte × Byte)) (later : List XferResult),
    s.phase = .waiting k → s.inSession = true → s.params.pollLimit = none →
    (∀ q ∈ quiet, q.2 &&& 0x70 = 0x00) →
    s.env.answers = quiet.map (fun q => .ok [q.1, q.2]) ++ later →
    ∃ t, core.run quiet.length s = .next t ∧ t.phase = .waiting (k + quiet.length) ∧ t.inSession = true ∧
      t.mode = s.mode ∧ t.result = s.result ∧ t.env = { s.env with answers := later }

/-- R205, R206: with `POLL_LIMIT` = N, N polls that read no latch are followed by FLUSH_TX and the result `Timeout`. -/
def Obligations.TimeoutAtPollLimit : Prop :=
  ∀ (s : State) (quiet : List (Byte × Byte)) (w : Byte) (later : List XferResult),
    s.phase = .waiting 0 → s.inSession = true → s.params.pollLimit = some quiet.length →
    (∀ q ∈ quiet, q.2 &&& 0x70 = 0x00) →
    s.env.answers = quiet.map (fun q => .ok [q.1, q.2]) ++ .ok [w] :: later →
    ∃ t, core.run (quiet.length + 1) s = .next t ∧ t.result = .timeout ∧ t.phase = .idle ∧ t.inSession = false ∧
      t.trace = s.trace ++ (quiet.flatMap fun q => frameEvents [0x07, s.params.nopByte] (.ok [q.1, q.2])) ++
        frameEvents [0xE1] (.ok [w]) ++ [.release]

/-! ### Addressing and configuration -/

/-- R170 to R173: RX_DESTINATION for pipes 0 to 5: the address, the pipe-0 cache, exactly one enabling write where the pipe's
bit reads clear; every other pipe operand, and a short buffer. -/
def Obligations.RxDestinationEffect : Prop :=
  ∀ (s : State) (pipe : Byte) (addr : List Byte), s.phase = .idle →
    let need := if pipe.toNat ≤ 1 then s.awb.toNat else 1
    (7 ≤ pipe.toNat → exec (.rxDestination pipe addr) s = .next { s with result := .parameterError, reply := .none }) ∧
    (pipe.toNat = 6 → exec (.rxDestination pipe addr) s = .refused .pipeAll) ∧
    (pipe.toNat ≤ 5 → addr.length < need → exec (.rxDestination pipe addr) s = .refused .shortAddress) ∧
    (pipe.toNat ≤ 5 → need ≤ addr.length →
      let write := (0x2A + pipe) :: addr.take need
      let e := valueRead (s.env.answer write).2 [0x02, s.params.nopByte]
      let items : List Item :=
        [.send write, .send [0x02, s.params.nopByte]] ++
          (if e.getLsbD pipe.toNat then [] else [.send [0x22, e ||| (1 <<< pipe.toNat)]])
      exec (.rxDestination pipe addr) s = .next
        { afterSession s items .none with
          p0 := if pipe = 0 ∧ (received s.env write).isSome then { present := true, addr := addr.take need }
                else s.p0 })

/-- R176, R177: TX_DESTINATION writes TX_ADDR and RX_ADDR_P0, and not the pipe-0 cache; a short buffer is refused. -/
def Obligations.TxDestinationEffect : Prop :=
  ∀ (s : State) (addr : List Byte), s.phase = .idle →
    (s.awb.toNat ≤ addr.length → exec (.txDestination addr) s = .next (afterSession s
      [.send (0x30 :: addr.take s.awb.toNat), .send (0x2A :: addr.take s.awb.toNat)] .none)) ∧
    (addr.length < s.awb.toNat → exec (.txDestination addr) s = .refused .shortAddress)

/-- R152: RX_DESTINATION of pipe 0 with A, TX_DESTINATION with B, RECEIVER_MODE: the last write of RX_ADDR_P0 the device
took is A, not B. -/
def Obligations.PipeZeroRestored : Prop :=
  ∀ (s s1 s2 s3 : State) (a b : List Byte), exec (.rxDestination 0 a) s = .next s1 → s1.result = .ok →
    exec (.txDestination b) s1 = .next s2 → s2.result = .ok →
    exec .receiverMode s2 = .next s3 → s3.result = .ok →
    lastWrite 0x2A s3.trace = some (a.take s.awb.toNat) ∧
      lastWrite 0x2A s2.trace = some (b.take s.awb.toNat) ∧ s3.mode = .rx

/-- R178, R179: PAYLOAD_SIZE writes one width, or the six of `ALL` in ascending order; a size or pipe out of range is a
parameter error. -/
def Obligations.PayloadSizeEffect : Prop :=
  ∀ (s : State) (pipe size : Byte), s.phase = .idle →
    (size.toNat < 1 ∨ 32 < size.toNat ∨ 7 ≤ pipe.toNat →
      exec (.payloadSize pipe size) s = .next { s with result := .parameterError, reply := .none }) ∧
    (1 ≤ size.toNat → size.toNat ≤ 32 → pipe.toNat ≤ 5 →
      exec (.payloadSize pipe size) s = .next (afterSession s [.send [0x31 + pipe, size]] .none)) ∧
    (1 ≤ size.toNat → size.toNat ≤ 32 → pipe.toNat = 6 → exec (.payloadSize pipe size) s = .next (afterSession s
      [.send [0x31, size], .send [0x32, size], .send [0x33, size], .send [0x34, size], .send [0x35, size],
       .send [0x36, size]] .none))

/-- R180, R181: the dynamic-payload commands commit the flag and write FEATURE and DYNPD. -/
def Obligations.DynPayloadsEffect : Prop :=
  ∀ s : State, s.phase = .idle →
    exec .dynPayloadsEnable s = .next (afterSession { s with cfg := { s.cfg with dyn := 1 } }
      [.send [0x3D, 0x05], .send [0x3C, 0x3F]] .none) ∧
    exec .dynPayloadsDisable s = .next (afterSession { s with cfg := { s.cfg with dyn := 0 } }
      [.send [0x3C, 0x00]] .none)

/-- R184, R185: AUTO_RETRANSMISSION commits both operands and writes their OR to SETUP_RETR, or is a parameter error. -/
def Obligations.AutoRetransmissionEffect : Prop :=
  ∀ (s : State) (ard arc : Byte), s.phase = .idle →
    exec (.autoRetransmission ard arc) s = .next
      (if ard ∈ [0x00#8, 0x10#8, 0x20#8, 0x30#8] ∧ arc.toNat ≤ 15 then
        afterSession { s with cfg := { s.cfg with ard := ard, arc := arc.setWidth 4 } } [.send [0x24, ard ||| arc]] .none
      else { s with result := .parameterError, reply := .none })

/-- R188, R189: RF_CHANNEL commits the channel and writes it to RF_CH, or is a parameter error. -/
def Obligations.RfChannelEffect : Prop :=
  ∀ (s : State) (ch : Byte), s.phase = .idle →
    exec (.rfChannel ch) s = .next
      (if 2 ≤ ch.toNat ∧ ch.toNat ≤ 125 then
        afterSession { s with cfg := { s.cfg with ch := ch.setWidth 7 } } [.send [0x25, ch]] .none
      else { s with result := .parameterError, reply := .none })

/-- R190, R191, R193, R194: RF_DATA_RATE and RF_POWER each commit their operand and take the other half of RF_SETUP from
the cache, or are a parameter error. -/
def Obligations.RfSetupEffect : Prop :=
  ∀ s : State, s.phase = .idle →
    (∀ dr : Byte, exec (.rfDataRate dr) s = .next
      (if dr ∈ [0x00#8, 0x08#8, 0x20#8] then
        afterSession { s with cfg := { s.cfg with dr := dr } } [.send [0x26, dr ||| s.cfg.pwr]] .none
      else { s with result := .parameterError, reply := .none })) ∧
    (∀ pwr : Byte, exec (.rfPower pwr) s = .next
      (if pwr ∈ [0x00#8, 0x02#8, 0x04#8, 0x06#8] then
        afterSession { s with cfg := { s.cfg with pwr := pwr } } [.send [0x26, s.cfg.dr ||| pwr]] .none
      else { s with result := .parameterError, reply := .none }))

/-! ### The poller -/

/-- R200 to R203: CHECK_STATUS_IRQ is one poll and returns its priority code and the STATUS byte. -/
def Obligations.CheckStatusIrqEffect : Prop :=
  ∀ s : State, s.phase = .idle →
    let v := statusRead s.params.nopByte s.env
    let code : Irq :=
      if v.getLsbD 6 then .rxDr else if v.getLsbD 5 then .txDs else if v.getLsbD 4 then .maxRt else .none
    exec .checkStatusIrq s = .next
      { afterSession s (pollItems s.params.nopByte v) (.status code v) with lastStatus := lastStatusAfterPoll s }

/-- R207: IS_PACKET is one poll and reports the pipe number where RX_DR was read set. -/
def Obligations.IsPacketEffect : Prop :=
  ∀ s : State, s.phase = .idle →
    let v := statusRead s.params.nopByte s.env
    let reply : Reply := if v.getLsbD 6 then .available ((v >>> 1).setWidth 3) else .noPacket
    exec .isPacket s = .next
      { afterSession s (pollItems s.params.nopByte v) reply with lastStatus := lastStatusAfterPoll s }

/-- R208: READ_PACKET is one R_RX_PAYLOAD frame and returns the bytes after the status echo; a size outside 1 to 32 is
refused. -/
def Obligations.ReadPacketEffect : Prop :=
  ∀ (s : State) (size : Byte), s.phase = .idle →
    let tx := 0x61 :: List.replicate size.toNat s.params.nopByte
    (1 ≤ size.toNat → size.toNat ≤ 32 →
      exec (.readPacket size) s = .next (afterSession s [.send tx] (.bytes (((received s.env tx).getD []).drop 1)))) ∧
    (size.toNat = 0 ∨ 32 < size.toNat → exec (.readPacket size) s = .refused .packetSize)

/-! ### The device double -/

/-- R64: a write of STATUS clears exactly the latch bits written 1. -/
def Obligations.DoubleClearsWrittenLatches : Prop :=
  ∀ (d : Double) (v : Byte) (j : Nat),
    (d.writeRegister 7 [v]).status.getLsbD j =
      (d.status.getLsbD j && !(4 ≤ j && j ≤ 6 && v.getLsbD j))

/-- R65, R175: a pipe 2 to 5 reads as its own byte and the upper bytes of pipe 1's address. -/
def Obligations.DoublePipeSharesUpperBytes : Prop :=
  ∀ (d : Double) (p : BitVec 5) (b : Byte) (a : List Byte), 2 ≤ p.toNat → p.toNat ≤ 5 → a.length = 5 →
    (((d.writeRegister 0x0B a).writeRegister (0x0A + p) [b]).effective (0x0A + p)).bytes = b :: a.drop 1

/-! ### The fields that events, ends of commands and turns of the wait write -/

/-- R34, R35: `st.ce` and `st.csn` are the levels last driven and `st.inSession` says whether the last of Acquire and
Release was an Acquire: after every step and every instruction they follow from the events it emitted. -/
def Obligations.LevelsAndSessionFollowEvents : Prop :=
  ∀ s t : State, (step s = .next t ∨ ∃ i, exec i s = .next t) →
    ∃ events, t.trace = s.trace ++ events ∧ t.ce = ceAfter events s.ce ∧ t.csn = csnAfter events s.csn ∧
      t.inSession = sessionAfter events s.inSession

/-- R36: `st.result` is written only at the end of a command: not by a frame that leaves the session open, nor by
SEND_PACKET while it only enters its wait (outside RX, where the pre-step is a command that ends: log entry 15), nor by a
turn after which it still waits. -/
def Obligations.ResultWrittenAtCommandEnd : Prop :=
  ∀ s t : State,
    (∀ i, ¬isHostCommand i → exec i s = .next t → t.inSession = true → t.result = s.result) ∧
    (∀ p, s.mode ≠ .rx → exec (.sendPacket p) s = .next t → t.phase ≠ .idle → t.result = s.result) ∧
    (s.phase ≠ .idle → step s = .next t → t.phase ≠ .idle → t.result = s.result)

/-- R33, R200: a turn of SEND_PACKET's wait writes `st.lastStatus` where its poll's read succeeds, and no cache, width,
mode, CE level or parameter. -/
def Obligations.WaitTurnFrame : Prop :=
  ∀ (s t : State) (i : Nat), s.phase = .waiting i → step s = .next t →
    t.lastStatus = (if s.params.pollLimit = some i then s.lastStatus else lastStatusAfterPoll s) ∧
    t.mode = s.mode ∧ t.cfg = s.cfg ∧ t.awb = s.awb ∧ t.p0 = s.p0 ∧ t.ce = s.ce ∧ t.params = s.params ∧
    t.port = s.port
end

