-- ==== Sys2Proof/Laws/Double.lean ====
section
/-! SUPPORT. The registers of the device double: what a write of one register does to a read of any, and the register
contents a test starts from. -/

namespace Sys2Proof.Machine

@[simp] theorem Double.reg_initial (after : Nat) (outcome : SendOutcome) (a : BitVec 5) :
    (Double.initial after outcome).reg a = ⟨0, 0, 0, 0, 0⟩ := by
  simp [Double.initial, Double.reg]

/-- A read after a write: the register written, every other as before. -/
theorem Double.reg_setReg (d : Double) (a a' : BitVec 5) (r : Register) :
    (d.setReg a r).reg a' = if a' = a then r else d.reg a' := by
  unfold Double.setReg Double.reg
  by_cases h : a' = a
  · subst h
    simp
  · have hn : a.toNat ≠ a'.toNat := fun e => h (BitVec.eq_of_toNat_eq e.symm)
    simp [Vector.getElem_set_ne, hn, h]

@[simp] theorem Double.reg_setReg_self (d : Double) (a : BitVec 5) (r : Register) : (d.setReg a r).reg a = r := by
  simp [Double.reg_setReg]

@[simp] theorem Double.status_setStatus (d : Double) (s : Byte) : (d.setStatus s).status = s := by
  simp [Double.status, Double.setStatus]

@[simp] theorem Register.bytes_length (r : Register) : r.bytes.length = 5 := rfl

/-- A write of as many bytes as a register has replaces them all. -/
theorem Register.bytes_overwrite_full (r : Register) (v : List Byte) (h : v.length = 5) :
    (r.overwrite v).bytes = v := by
  match v, h with
  | [_, _, _, _, _], _ => rfl

/-- A write of one byte replaces the first. -/
@[simp] theorem Register.overwrite_one (r : Register) (b : Byte) : r.overwrite [b] = { r with b0 := b } := rfl

end Sys2Proof.Machine
end

