-- ==== Sys2Proof/Laws/State.lean ====
section
/-! SUPPORT. What each named update of the state does to each field: one lemma per field per update. -/

namespace Sys2Proof.Machine

variable (s : State)

/-! ### State.emit -/

@[simp] theorem State.emit_mode (e : Event) : (s.emit e).mode = s.mode := rfl
@[simp] theorem State.emit_cfg (e : Event) : (s.emit e).cfg = s.cfg := rfl
@[simp] theorem State.emit_awb (e : Event) : (s.emit e).awb = s.awb := rfl
@[simp] theorem State.emit_p0 (e : Event) : (s.emit e).p0 = s.p0 := rfl
@[simp] theorem State.emit_lastStatus (e : Event) : (s.emit e).lastStatus = s.lastStatus := rfl
@[simp] theorem State.emit_ce (e : Event) : (s.emit e).ce = s.ce := rfl
@[simp] theorem State.emit_csn (e : Event) : (s.emit e).csn = s.csn := rfl
@[simp] theorem State.emit_inSession (e : Event) : (s.emit e).inSession = s.inSession := rfl
@[simp] theorem State.emit_result (e : Event) : (s.emit e).result = s.result := rfl
@[simp] theorem State.emit_phase (e : Event) : (s.emit e).phase = s.phase := rfl
@[simp] theorem State.emit_reply (e : Event) : (s.emit e).reply = s.reply := rfl
@[simp] theorem State.emit_trace (e : Event) : (s.emit e).trace = s.trace ++ [e] := rfl
@[simp] theorem State.emit_params (e : Event) : (s.emit e).params = s.params := rfl
@[simp] theorem State.emit_env (e : Event) : (s.emit e).env = s.env := rfl
@[simp] theorem State.emit_port (e : Event) : (s.emit e).port = s.port := rfl

/-! ### State.openSession -/

@[simp] theorem State.openSession_mode : (s.openSession).mode = s.mode := rfl
@[simp] theorem State.openSession_cfg : (s.openSession).cfg = s.cfg := rfl
@[simp] theorem State.openSession_awb : (s.openSession).awb = s.awb := rfl
@[simp] theorem State.openSession_p0 : (s.openSession).p0 = s.p0 := rfl
@[simp] theorem State.openSession_lastStatus : (s.openSession).lastStatus = s.lastStatus := rfl
@[simp] theorem State.openSession_ce : (s.openSession).ce = s.ce := rfl
@[simp] theorem State.openSession_csn : (s.openSession).csn = s.csn := rfl
@[simp] theorem State.openSession_inSession : (s.openSession).inSession = true := rfl
@[simp] theorem State.openSession_result : (s.openSession).result = s.result := rfl
@[simp] theorem State.openSession_phase : (s.openSession).phase = s.phase := rfl
@[simp] theorem State.openSession_reply : (s.openSession).reply = s.reply := rfl
@[simp] theorem State.openSession_trace : (s.openSession).trace = s.trace ++ [.acquire s.params.baud] := rfl
@[simp] theorem State.openSession_params : (s.openSession).params = s.params := rfl
@[simp] theorem State.openSession_env : (s.openSession).env = s.env := rfl
@[simp] theorem State.openSession_port : (s.openSession).port = s.port := rfl

/-! ### State.closeSession -/

@[simp] theorem State.closeSession_mode : (s.closeSession).mode = s.mode := rfl
@[simp] theorem State.closeSession_cfg : (s.closeSession).cfg = s.cfg := rfl
@[simp] theorem State.closeSession_awb : (s.closeSession).awb = s.awb := rfl
@[simp] theorem State.closeSession_p0 : (s.closeSession).p0 = s.p0 := rfl
@[simp] theorem State.closeSession_lastStatus : (s.closeSession).lastStatus = s.lastStatus := rfl
@[simp] theorem State.closeSession_ce : (s.closeSession).ce = s.ce := rfl
@[simp] theorem State.closeSession_csn : (s.closeSession).csn = s.csn := rfl
@[simp] theorem State.closeSession_inSession : (s.closeSession).inSession = false := rfl
@[simp] theorem State.closeSession_result : (s.closeSession).result = s.result := rfl
@[simp] theorem State.closeSession_phase : (s.closeSession).phase = s.phase := rfl
@[simp] theorem State.closeSession_reply : (s.closeSession).reply = s.reply := rfl
@[simp] theorem State.closeSession_trace : (s.closeSession).trace = s.trace ++ [.release] := rfl
@[simp] theorem State.closeSession_params : (s.closeSession).params = s.params := rfl
@[simp] theorem State.closeSession_env : (s.closeSession).env = s.env := rfl
@[simp] theorem State.closeSession_port : (s.closeSession).port = s.port := rfl

/-! ### State.driveCE -/

@[simp] theorem State.driveCE_mode (l : Level) : (s.driveCE l).mode = s.mode := rfl
@[simp] theorem State.driveCE_cfg (l : Level) : (s.driveCE l).cfg = s.cfg := rfl
@[simp] theorem State.driveCE_awb (l : Level) : (s.driveCE l).awb = s.awb := rfl
@[simp] theorem State.driveCE_p0 (l : Level) : (s.driveCE l).p0 = s.p0 := rfl
@[simp] theorem State.driveCE_lastStatus (l : Level) : (s.driveCE l).lastStatus = s.lastStatus := rfl
@[simp] theorem State.driveCE_ce (l : Level) : (s.driveCE l).ce = l := rfl
@[simp] theorem State.driveCE_csn (l : Level) : (s.driveCE l).csn = s.csn := rfl
@[simp] theorem State.driveCE_inSession (l : Level) : (s.driveCE l).inSession = s.inSession := rfl
@[simp] theorem State.driveCE_result (l : Level) : (s.driveCE l).result = s.result := rfl
@[simp] theorem State.driveCE_phase (l : Level) : (s.driveCE l).phase = s.phase := rfl
@[simp] theorem State.driveCE_reply (l : Level) : (s.driveCE l).reply = s.reply := rfl
@[simp] theorem State.driveCE_trace (l : Level) : (s.driveCE l).trace = s.trace ++ [.setCE l] := rfl
@[simp] theorem State.driveCE_params (l : Level) : (s.driveCE l).params = s.params := rfl
@[simp] theorem State.driveCE_env (l : Level) : (s.driveCE l).env = s.env.onCE l := rfl
@[simp] theorem State.driveCE_port (l : Level) : (s.driveCE l).port = s.port := rfl

/-! ### State.driveCSN -/

@[simp] theorem State.driveCSN_mode (l : Level) : (s.driveCSN l).mode = s.mode := rfl
@[simp] theorem State.driveCSN_cfg (l : Level) : (s.driveCSN l).cfg = s.cfg := rfl
@[simp] theorem State.driveCSN_awb (l : Level) : (s.driveCSN l).awb = s.awb := rfl
@[simp] theorem State.driveCSN_p0 (l : Level) : (s.driveCSN l).p0 = s.p0 := rfl
@[simp] theorem State.driveCSN_lastStatus (l : Level) : (s.driveCSN l).lastStatus = s.lastStatus := rfl
@[simp] theorem State.driveCSN_ce (l : Level) : (s.driveCSN l).ce = s.ce := rfl
@[simp] theorem State.driveCSN_csn (l : Level) : (s.driveCSN l).csn = l := rfl
@[simp] theorem State.driveCSN_inSession (l : Level) : (s.driveCSN l).inSession = s.inSession := rfl
@[simp] theorem State.driveCSN_result (l : Level) : (s.driveCSN l).result = s.result := rfl
@[simp] theorem State.driveCSN_phase (l : Level) : (s.driveCSN l).phase = s.phase := rfl
@[simp] theorem State.driveCSN_reply (l : Level) : (s.driveCSN l).reply = s.reply := rfl
@[simp] theorem State.driveCSN_trace (l : Level) : (s.driveCSN l).trace = s.trace ++ [.setCSN l] := rfl
@[simp] theorem State.driveCSN_params (l : Level) : (s.driveCSN l).params = s.params := rfl
@[simp] theorem State.driveCSN_env (l : Level) : (s.driveCSN l).env = s.env := rfl
@[simp] theorem State.driveCSN_port (l : Level) : (s.driveCSN l).port = s.port := rfl

/-! ### State.waited -/

@[simp] theorem State.waited_mode (b : Nat) : (s.waited b).mode = s.mode := rfl
@[simp] theorem State.waited_cfg (b : Nat) : (s.waited b).cfg = s.cfg := rfl
@[simp] theorem State.waited_awb (b : Nat) : (s.waited b).awb = s.awb := rfl
@[simp] theorem State.waited_p0 (b : Nat) : (s.waited b).p0 = s.p0 := rfl
@[simp] theorem State.waited_lastStatus (b : Nat) : (s.waited b).lastStatus = s.lastStatus := rfl
@[simp] theorem State.waited_ce (b : Nat) : (s.waited b).ce = s.ce := rfl
@[simp] theorem State.waited_csn (b : Nat) : (s.waited b).csn = s.csn := rfl
@[simp] theorem State.waited_inSession (b : Nat) : (s.waited b).inSession = s.inSession := rfl
@[simp] theorem State.waited_result (b : Nat) : (s.waited b).result = s.result := rfl
@[simp] theorem State.waited_phase (b : Nat) : (s.waited b).phase = s.phase := rfl
@[simp] theorem State.waited_reply (b : Nat) : (s.waited b).reply = s.reply := rfl
@[simp] theorem State.waited_trace (b : Nat) : (s.waited b).trace = s.trace ++ [.wait b] := rfl
@[simp] theorem State.waited_params (b : Nat) : (s.waited b).params = s.params := rfl
@[simp] theorem State.waited_env (b : Nat) : (s.waited b).env = s.env := rfl
@[simp] theorem State.waited_port (b : Nat) : (s.waited b).port = s.port := rfl

/-! ### State.transferred -/

@[simp] theorem State.transferred_mode (tx : List Byte) : (s.transferred tx).mode = s.mode := rfl
@[simp] theorem State.transferred_cfg (tx : List Byte) : (s.transferred tx).cfg = s.cfg := rfl
@[simp] theorem State.transferred_awb (tx : List Byte) : (s.transferred tx).awb = s.awb := rfl
@[simp] theorem State.transferred_p0 (tx : List Byte) : (s.transferred tx).p0 = s.p0 := rfl
@[simp] theorem State.transferred_lastStatus (tx : List Byte) : (s.transferred tx).lastStatus = s.lastStatus := rfl
@[simp] theorem State.transferred_ce (tx : List Byte) : (s.transferred tx).ce = s.ce := rfl
@[simp] theorem State.transferred_csn (tx : List Byte) : (s.transferred tx).csn = s.csn := rfl
@[simp] theorem State.transferred_inSession (tx : List Byte) : (s.transferred tx).inSession = s.inSession := rfl
@[simp] theorem State.transferred_result (tx : List Byte) : (s.transferred tx).result = s.result := rfl
@[simp] theorem State.transferred_phase (tx : List Byte) : (s.transferred tx).phase = s.phase := rfl
@[simp] theorem State.transferred_reply (tx : List Byte) : (s.transferred tx).reply = s.reply := rfl
@[simp] theorem State.transferred_trace (tx : List Byte) : (s.transferred tx).trace = s.trace ++ [.xfer tx (s.env.answer tx).1] := rfl
@[simp] theorem State.transferred_params (tx : List Byte) : (s.transferred tx).params = s.params := rfl
@[simp] theorem State.transferred_env (tx : List Byte) : (s.transferred tx).env = (s.env.answer tx).2 := rfl
@[simp] theorem State.transferred_port (tx : List Byte) : (s.transferred tx).port = s.port := rfl

/-! ### State.withMode -/

@[simp] theorem State.withMode_mode (m : Mode) : (s.withMode m).mode = m := rfl
@[simp] theorem State.withMode_cfg (m : Mode) : (s.withMode m).cfg = s.cfg := rfl
@[simp] theorem State.withMode_awb (m : Mode) : (s.withMode m).awb = s.awb := rfl
@[simp] theorem State.withMode_p0 (m : Mode) : (s.withMode m).p0 = s.p0 := rfl
@[simp] theorem State.withMode_lastStatus (m : Mode) : (s.withMode m).lastStatus = s.lastStatus := rfl
@[simp] theorem State.withMode_ce (m : Mode) : (s.withMode m).ce = s.ce := rfl
@[simp] theorem State.withMode_csn (m : Mode) : (s.withMode m).csn = s.csn := rfl
@[simp] theorem State.withMode_inSession (m : Mode) : (s.withMode m).inSession = s.inSession := rfl
@[simp] theorem State.withMode_result (m : Mode) : (s.withMode m).result = s.result := rfl
@[simp] theorem State.withMode_phase (m : Mode) : (s.withMode m).phase = s.phase := rfl
@[simp] theorem State.withMode_reply (m : Mode) : (s.withMode m).reply = s.reply := rfl
@[simp] theorem State.withMode_trace (m : Mode) : (s.withMode m).trace = s.trace := rfl
@[simp] theorem State.withMode_params (m : Mode) : (s.withMode m).params = s.params := rfl
@[simp] theorem State.withMode_env (m : Mode) : (s.withMode m).env = s.env := rfl
@[simp] theorem State.withMode_port (m : Mode) : (s.withMode m).port = s.port := rfl

/-! ### State.withCfg -/

@[simp] theorem State.withCfg_mode (c : Cfg) : (s.withCfg c).mode = s.mode := rfl
@[simp] theorem State.withCfg_cfg (c : Cfg) : (s.withCfg c).cfg = c := rfl
@[simp] theorem State.withCfg_awb (c : Cfg) : (s.withCfg c).awb = s.awb := rfl
@[simp] theorem State.withCfg_p0 (c : Cfg) : (s.withCfg c).p0 = s.p0 := rfl
@[simp] theorem State.withCfg_lastStatus (c : Cfg) : (s.withCfg c).lastStatus = s.lastStatus := rfl
@[simp] theorem State.withCfg_ce (c : Cfg) : (s.withCfg c).ce = s.ce := rfl
@[simp] theorem State.withCfg_csn (c : Cfg) : (s.withCfg c).csn = s.csn := rfl
@[simp] theorem State.withCfg_inSession (c : Cfg) : (s.withCfg c).inSession = s.inSession := rfl
@[simp] theorem State.withCfg_result (c : Cfg) : (s.withCfg c).result = s.result := rfl
@[simp] theorem State.withCfg_phase (c : Cfg) : (s.withCfg c).phase = s.phase := rfl
@[simp] theorem State.withCfg_reply (c : Cfg) : (s.withCfg c).reply = s.reply := rfl
@[simp] theorem State.withCfg_trace (c : Cfg) : (s.withCfg c).trace = s.trace := rfl
@[simp] theorem State.withCfg_params (c : Cfg) : (s.withCfg c).params = s.params := rfl
@[simp] theorem State.withCfg_env (c : Cfg) : (s.withCfg c).env = s.env := rfl
@[simp] theorem State.withCfg_port (c : Cfg) : (s.withCfg c).port = s.port := rfl

/-! ### State.cacheP0 -/

@[simp] theorem State.cacheP0_mode (a : List Byte) : (s.cacheP0 a).mode = s.mode := rfl
@[simp] theorem State.cacheP0_cfg (a : List Byte) : (s.cacheP0 a).cfg = s.cfg := rfl
@[simp] theorem State.cacheP0_awb (a : List Byte) : (s.cacheP0 a).awb = s.awb := rfl
@[simp] theorem State.cacheP0_p0 (a : List Byte) : (s.cacheP0 a).p0 = ⟨true, a⟩ := rfl
@[simp] theorem State.cacheP0_lastStatus (a : List Byte) : (s.cacheP0 a).lastStatus = s.lastStatus := rfl
@[simp] theorem State.cacheP0_ce (a : List Byte) : (s.cacheP0 a).ce = s.ce := rfl
@[simp] theorem State.cacheP0_csn (a : List Byte) : (s.cacheP0 a).csn = s.csn := rfl
@[simp] theorem State.cacheP0_inSession (a : List Byte) : (s.cacheP0 a).inSession = s.inSession := rfl
@[simp] theorem State.cacheP0_result (a : List Byte) : (s.cacheP0 a).result = s.result := rfl
@[simp] theorem State.cacheP0_phase (a : List Byte) : (s.cacheP0 a).phase = s.phase := rfl
@[simp] theorem State.cacheP0_reply (a : List Byte) : (s.cacheP0 a).reply = s.reply := rfl
@[simp] theorem State.cacheP0_trace (a : List Byte) : (s.cacheP0 a).trace = s.trace := rfl
@[simp] theorem State.cacheP0_params (a : List Byte) : (s.cacheP0 a).params = s.params := rfl
@[simp] theorem State.cacheP0_env (a : List Byte) : (s.cacheP0 a).env = s.env := rfl
@[simp] theorem State.cacheP0_port (a : List Byte) : (s.cacheP0 a).port = s.port := rfl

/-! ### State.withStatus -/

@[simp] theorem State.withStatus_mode (v : Byte) : (s.withStatus v).mode = s.mode := rfl
@[simp] theorem State.withStatus_cfg (v : Byte) : (s.withStatus v).cfg = s.cfg := rfl
@[simp] theorem State.withStatus_awb (v : Byte) : (s.withStatus v).awb = s.awb := rfl
@[simp] theorem State.withStatus_p0 (v : Byte) : (s.withStatus v).p0 = s.p0 := rfl
@[simp] theorem State.withStatus_lastStatus (v : Byte) : (s.withStatus v).lastStatus = v := rfl
@[simp] theorem State.withStatus_ce (v : Byte) : (s.withStatus v).ce = s.ce := rfl
@[simp] theorem State.withStatus_csn (v : Byte) : (s.withStatus v).csn = s.csn := rfl
@[simp] theorem State.withStatus_inSession (v : Byte) : (s.withStatus v).inSession = s.inSession := rfl
@[simp] theorem State.withStatus_result (v : Byte) : (s.withStatus v).result = s.result := rfl
@[simp] theorem State.withStatus_phase (v : Byte) : (s.withStatus v).phase = s.phase := rfl
@[simp] theorem State.withStatus_reply (v : Byte) : (s.withStatus v).reply = s.reply := rfl
@[simp] theorem State.withStatus_trace (v : Byte) : (s.withStatus v).trace = s.trace := rfl
@[simp] theorem State.withStatus_params (v : Byte) : (s.withStatus v).params = s.params := rfl
@[simp] theorem State.withStatus_env (v : Byte) : (s.withStatus v).env = s.env := rfl
@[simp] theorem State.withStatus_port (v : Byte) : (s.withStatus v).port = s.port := rfl

/-! ### State.withPhase -/

@[simp] theorem State.withPhase_mode (p : Phase) : (s.withPhase p).mode = s.mode := rfl
@[simp] theorem State.withPhase_cfg (p : Phase) : (s.withPhase p).cfg = s.cfg := rfl
@[simp] theorem State.withPhase_awb (p : Phase) : (s.withPhase p).awb = s.awb := rfl
@[simp] theorem State.withPhase_p0 (p : Phase) : (s.withPhase p).p0 = s.p0 := rfl
@[simp] theorem State.withPhase_lastStatus (p : Phase) : (s.withPhase p).lastStatus = s.lastStatus := rfl
@[simp] theorem State.withPhase_ce (p : Phase) : (s.withPhase p).ce = s.ce := rfl
@[simp] theorem State.withPhase_csn (p : Phase) : (s.withPhase p).csn = s.csn := rfl
@[simp] theorem State.withPhase_inSession (p : Phase) : (s.withPhase p).inSession = s.inSession := rfl
@[simp] theorem State.withPhase_result (p : Phase) : (s.withPhase p).result = s.result := rfl
@[simp] theorem State.withPhase_phase (p : Phase) : (s.withPhase p).phase = p := rfl
@[simp] theorem State.withPhase_reply (p : Phase) : (s.withPhase p).reply = s.reply := rfl
@[simp] theorem State.withPhase_trace (p : Phase) : (s.withPhase p).trace = s.trace := rfl
@[simp] theorem State.withPhase_params (p : Phase) : (s.withPhase p).params = s.params := rfl
@[simp] theorem State.withPhase_env (p : Phase) : (s.withPhase p).env = s.env := rfl
@[simp] theorem State.withPhase_port (p : Phase) : (s.withPhase p).port = s.port := rfl

/-! ### State.withReply -/

@[simp] theorem State.withReply_mode (r : Reply) : (s.withReply r).mode = s.mode := rfl
@[simp] theorem State.withReply_cfg (r : Reply) : (s.withReply r).cfg = s.cfg := rfl
@[simp] theorem State.withReply_awb (r : Reply) : (s.withReply r).awb = s.awb := rfl
@[simp] theorem State.withReply_p0 (r : Reply) : (s.withReply r).p0 = s.p0 := rfl
@[simp] theorem State.withReply_lastStatus (r : Reply) : (s.withReply r).lastStatus = s.lastStatus := rfl
@[simp] theorem State.withReply_ce (r : Reply) : (s.withReply r).ce = s.ce := rfl
@[simp] theorem State.withReply_csn (r : Reply) : (s.withReply r).csn = s.csn := rfl
@[simp] theorem State.withReply_inSession (r : Reply) : (s.withReply r).inSession = s.inSession := rfl
@[simp] theorem State.withReply_result (r : Reply) : (s.withReply r).result = s.result := rfl
@[simp] theorem State.withReply_phase (r : Reply) : (s.withReply r).phase = s.phase := rfl
@[simp] theorem State.withReply_reply (r : Reply) : (s.withReply r).reply = r := rfl
@[simp] theorem State.withReply_trace (r : Reply) : (s.withReply r).trace = s.trace := rfl
@[simp] theorem State.withReply_params (r : Reply) : (s.withReply r).params = s.params := rfl
@[simp] theorem State.withReply_env (r : Reply) : (s.withReply r).env = s.env := rfl
@[simp] theorem State.withReply_port (r : Reply) : (s.withReply r).port = s.port := rfl

/-! ### State.ended -/

@[simp] theorem State.ended_mode (c : ResultCode) (r : Reply) : (s.ended c r).mode = s.mode := rfl
@[simp] theorem State.ended_cfg (c : ResultCode) (r : Reply) : (s.ended c r).cfg = s.cfg := rfl
@[simp] theorem State.ended_awb (c : ResultCode) (r : Reply) : (s.ended c r).awb = s.awb := rfl
@[simp] theorem State.ended_p0 (c : ResultCode) (r : Reply) : (s.ended c r).p0 = s.p0 := rfl
@[simp] theorem State.ended_lastStatus (c : ResultCode) (r : Reply) : (s.ended c r).lastStatus = s.lastStatus := rfl
@[simp] theorem State.ended_ce (c : ResultCode) (r : Reply) : (s.ended c r).ce = s.ce := rfl
@[simp] theorem State.ended_csn (c : ResultCode) (r : Reply) : (s.ended c r).csn = s.csn := rfl
@[simp] theorem State.ended_inSession (c : ResultCode) (r : Reply) : (s.ended c r).inSession = s.inSession := rfl
@[simp] theorem State.ended_result (c : ResultCode) (r : Reply) : (s.ended c r).result = c := rfl
@[simp] theorem State.ended_phase (c : ResultCode) (r : Reply) : (s.ended c r).phase = .idle := rfl
@[simp] theorem State.ended_reply (c : ResultCode) (r : Reply) : (s.ended c r).reply = r := rfl
@[simp] theorem State.ended_trace (c : ResultCode) (r : Reply) : (s.ended c r).trace = s.trace := rfl
@[simp] theorem State.ended_params (c : ResultCode) (r : Reply) : (s.ended c r).params = s.params := rfl
@[simp] theorem State.ended_env (c : ResultCode) (r : Reply) : (s.ended c r).env = s.env := rfl
@[simp] theorem State.ended_port (c : ResultCode) (r : Reply) : (s.ended c r).port = s.port := rfl

/-! ### State.committed -/

@[simp] theorem State.committed_mode (c : CfgRecord) : (s.committed c).mode = s.mode := rfl
@[simp] theorem State.committed_cfg (c : CfgRecord) : (s.committed c).cfg = Cfg.ofRecord c := rfl
@[simp] theorem State.committed_awb (c : CfgRecord) : (s.committed c).awb = widthBytes (c.aw.setWidth 2) := rfl
@[simp] theorem State.committed_p0 (c : CfgRecord) : (s.committed c).p0 = if c.aw.setWidth 2 != s.cfg.aw then { s.p0 with present := false } else s.p0 := rfl
@[simp] theorem State.committed_lastStatus (c : CfgRecord) : (s.committed c).lastStatus = s.lastStatus := rfl
@[simp] theorem State.committed_ce (c : CfgRecord) : (s.committed c).ce = s.ce := rfl
@[simp] theorem State.committed_csn (c : CfgRecord) : (s.committed c).csn = s.csn := rfl
@[simp] theorem State.committed_inSession (c : CfgRecord) : (s.committed c).inSession = s.inSession := rfl
@[simp] theorem State.committed_result (c : CfgRecord) : (s.committed c).result = s.result := rfl
@[simp] theorem State.committed_phase (c : CfgRecord) : (s.committed c).phase = s.phase := rfl
@[simp] theorem State.committed_reply (c : CfgRecord) : (s.committed c).reply = s.reply := rfl
@[simp] theorem State.committed_trace (c : CfgRecord) : (s.committed c).trace = s.trace := rfl
@[simp] theorem State.committed_params (c : CfgRecord) : (s.committed c).params = s.params := rfl
@[simp] theorem State.committed_env (c : CfgRecord) : (s.committed c).env = s.env := rfl
@[simp] theorem State.committed_port (c : CfgRecord) : (s.committed c).port = s.port := rfl

end Sys2Proof.Machine
end

