-- ==== Sys2Proof/Laws/Ops.lean ====
section
/-! SUPPORT. What each shared operation does, said once: how actions compose, a transfer, a frame and the primitives
built on it, sessions, the poll and the ways a command ends. -/

namespace Sys2Proof.Machine

/-! ### Actions -/

@[simp] theorem act_run (f : State → State) (s : State) : act f s = .ok () (f s) := rfl

@[simp] theorem look_run {α : Type} (f : State → α) (s : State) : look f s = .ok (f s) s := rfl

@[simp] theorem pure_run {α : Type} (a : α) (s : State) : (pure a : Act α) s = .ok a s := rfl

@[simp] theorem throw_run {α : Type} (e : ResultCode) (s : State) : (throw e : Act α) s = .error e s := rfl

theorem bind_run {α β : Type} (x : Act α) (f : α → Act β) (s : State) :
    (x >>= f) s = match x s with
      | .ok a t => f a t
      | .error e t => .error e t := by
  change EStateM.bind x f s = _
  unfold EStateM.bind
  cases x s <;> rfl

/-- A composed action that ends well has a first part that ended well, and then its second part. -/
theorem bind_ok_inv {α β : Type} {x : Act α} {f : α → Act β} {s t : State} {b : β}
    (h : (x >>= f) s = .ok b t) : ∃ a u, x s = .ok a u ∧ f a u = .ok b t := by
  rw [bind_run] at h
  split at h
  · exact ⟨_, _, ‹_›, h⟩
  · cases h

/-- A composed action that raises does so in its first part, or in its second after the first ended well. -/
theorem bind_error_inv {α β : Type} {x : Act α} {f : α → Act β} {s t : State} {e : ResultCode}
    (h : (x >>= f) s = .error e t) :
    x s = .error e t ∨ ∃ a u, x s = .ok a u ∧ f a u = .error e t := by
  rw [bind_run] at h
  split at h
  · exact .inr ⟨_, _, ‹_›, h⟩
  · cases h
    exact .inl ‹_›

@[simp] theorem onlyIf_true (a : Act Unit) : onlyIf true a = a := rfl

@[simp] theorem onlyIf_false (a : Act Unit) : onlyIf false a = pure () := rfl

/-! ### A property every step of an action keeps -/

/-- Whatever the action's end, the state it leaves has the property if the state it starts in has. -/
def Act.Keeps {α : Type} (P : State → Prop) (x : Act α) : Prop :=
  ∀ s, P s → match x s with
    | .ok _ t => P t
    | .error _ t => P t

theorem keeps_act {P : State → Prop} {f : State → State} (h : ∀ s, P s → P (f s)) : Act.Keeps P (act f) :=
  fun s hs => h s hs

theorem keeps_look {α : Type} {P : State → Prop} (f : State → α) : Act.Keeps P (look f) :=
  fun _ hs => hs

theorem keeps_pure {α : Type} {P : State → Prop} (a : α) : Act.Keeps P (pure a : Act α) :=
  fun _ hs => hs

theorem keeps_throw {α : Type} {P : State → Prop} (e : ResultCode) : Act.Keeps P (throw e : Act α) :=
  fun _ hs => hs

theorem keeps_bind {α β : Type} {P : State → Prop} {x : Act α} {f : α → Act β} (hx : Act.Keeps P x)
    (hf : ∀ a, Act.Keeps P (f a)) : Act.Keeps P (x >>= f) := by
  intro s hs
  have h := hx s hs
  rw [bind_run]
  cases hxs : x s with
  | ok a t => rw [hxs] at h; exact hf a t h
  | error e t => rw [hxs] at h; exact h

theorem keeps_onlyIf {P : State → Prop} {c : Bool} {a : Act Unit} (h : Act.Keeps P a) :
    Act.Keeps P (onlyIf c a) := by
  cases c
  · exact keeps_pure ()
  · exact h

/-! ### The environment -/

theorem XferResult.checked_ok {n : Nat} {r : XferResult} {rx : List Byte} (h : r.checked n = .ok rx) :
    rx.length = n := by
  cases r with
  | ok r0 =>
    simp only [XferResult.checked] at h
    split at h
    · cases h; assumption
    · cases h
  | short => cases h

theorem freeAnswer_ok {k n : Nat} {rx : List Byte} (h : freeAnswer k n = .ok rx) : rx.length = n := by
  unfold freeAnswer at h
  split at h
  · cases h
  · cases h; simp

@[simp] theorem Env.onCE_answers (e : Env) (l : Level) : (e.onCE l).answers = e.answers := rfl

@[simp] theorem Env.onCE_draws (e : Env) (l : Level) : (e.onCE l).draws = e.draws := rfl

/-- The answer fixed in advance comes first. -/
theorem Env.answer_fixed (a : XferResult) (later : List XferResult) (d : Option Double) (k : Nat)
    (tx : List Byte) :
    Env.answer ⟨a :: later, d, k⟩ tx = (a.checked tx.length, ⟨later, d, k⟩) := rfl

/-! ### The frame (R120) -/

/-- The state after a frame: CSN high, the environment after the transfer, the three events (R120). -/
def State.framed (s : State) (tx : List Byte) : State :=
  { s with
    csn := .high
    env := (s.env.answer tx).2
    trace := s.trace ++ [.setCSN .low, .xfer tx (s.env.answer tx).1, .setCSN .high] }

@[simp] theorem State.framed_mode (s : State) (tx : List Byte) : (s.framed tx).mode = s.mode := rfl
@[simp] theorem State.framed_cfg (s : State) (tx : List Byte) : (s.framed tx).cfg = s.cfg := rfl
@[simp] theorem State.framed_awb (s : State) (tx : List Byte) : (s.framed tx).awb = s.awb := rfl
@[simp] theorem State.framed_p0 (s : State) (tx : List Byte) : (s.framed tx).p0 = s.p0 := rfl
@[simp] theorem State.framed_lastStatus (s : State) (tx : List Byte) : (s.framed tx).lastStatus = s.lastStatus := rfl
@[simp] theorem State.framed_ce (s : State) (tx : List Byte) : (s.framed tx).ce = s.ce := rfl
@[simp] theorem State.framed_csn (s : State) (tx : List Byte) : (s.framed tx).csn = .high := rfl
@[simp] theorem State.framed_inSession (s : State) (tx : List Byte) : (s.framed tx).inSession = s.inSession := rfl
@[simp] theorem State.framed_result (s : State) (tx : List Byte) : (s.framed tx).result = s.result := rfl
@[simp] theorem State.framed_phase (s : State) (tx : List Byte) : (s.framed tx).phase = s.phase := rfl
@[simp] theorem State.framed_reply (s : State) (tx : List Byte) : (s.framed tx).reply = s.reply := rfl
@[simp] theorem State.framed_params (s : State) (tx : List Byte) : (s.framed tx).params = s.params := rfl
@[simp] theorem State.framed_port (s : State) (tx : List Byte) : (s.framed tx).port = s.port := rfl
@[simp] theorem State.framed_env (s : State) (tx : List Byte) : (s.framed tx).env = (s.env.answer tx).2 := rfl
@[simp] theorem State.framed_trace (s : State) (tx : List Byte) :
    (s.framed tx).trace = s.trace ++ [.setCSN .low, .xfer tx (s.env.answer tx).1, .setCSN .high] := rfl

/-- All a frame can do: it ends in `State.framed`, with the received bytes or with `BusError` (R120). -/
theorem frame_run (tx : List Byte) (s : State) :
    frame tx s = match (s.env.answer tx).1 with
      | .ok rx => .ok rx (s.framed tx)
      | .short => .error .busError (s.framed tx) := by
  simp only [frame, bind_run, act_run, xfer]
  have h : ((s.driveCSN .low).transferred tx).driveCSN .high = s.framed tx := by
    simp [State.framed, State.driveCSN, State.transferred, State.emit]
  have e : (s.driveCSN .low).env = s.env := rfl
  rw [h, e]
  cases (s.env.answer tx).1 <;> rfl

/-- `writeRegister` is its frame (R121). -/
theorem writeReg_run (addr : Byte) (v : List Byte) (s : State) :
    writeReg addr v s = match (s.env.answer (writeCommand addr :: v)).1 with
      | .ok _ => .ok () (s.framed (writeCommand addr :: v))
      | .short => .error .busError (s.framed (writeCommand addr :: v)) := by
  simp only [writeReg, bind_run, frame_run]
  cases (s.env.answer (writeCommand addr :: v)).1 <;> rfl

/-- `readRegisterByte` is its frame, and returns `rx[1]` (R122). -/
theorem readReg_run (addr : Byte) (s : State) :
    readReg addr s = match (s.env.answer [readCommand addr, s.params.nopByte]).1 with
      | .ok rx => .ok (rx.getD 1 0) (s.framed [readCommand addr, s.params.nopByte])
      | .short => .error .busError (s.framed [readCommand addr, s.params.nopByte]) := by
  simp only [readReg, bind_run, look_run, frame_run]
  cases (s.env.answer [readCommand addr, s.params.nopByte]).1 <;> rfl

/-- `readRegisterBytes` is its frame, and returns `rx[1..n]` (R123). -/
theorem readRegs_run (addr : Byte) (n : Nat) (s : State) :
    readRegs addr n s =
      match (s.env.answer (readCommand addr :: List.replicate n s.params.nopByte)).1 with
      | .ok rx => .ok (rx.drop 1) (s.framed (readCommand addr :: List.replicate n s.params.nopByte))
      | .short => .error .busError (s.framed (readCommand addr :: List.replicate n s.params.nopByte)) := by
  simp only [readRegs, bind_run, look_run, frame_run]
  cases (s.env.answer (readCommand addr :: List.replicate n s.params.nopByte)).1 <;> rfl

/-- `writeTxPayload` is its frame (R124). -/
theorem writeTxPayload_run (p : List Byte) (s : State) :
    writeTxPayload p s = match (s.env.answer (Config.cmdWTxPayload :: p)).1 with
      | .ok _ => .ok () (s.framed (Config.cmdWTxPayload :: p))
      | .short => .error .busError (s.framed (Config.cmdWTxPayload :: p)) := by
  simp only [writeTxPayload, bind_run, frame_run]
  cases (s.env.answer (Config.cmdWTxPayload :: p)).1 <;> rfl

/-- `readRxPayload` is its frame, and returns `rx[1..n]` (R125). -/
theorem readRxPayload_run (n : Nat) (s : State) :
    readRxPayload n s =
      match (s.env.answer (Config.cmdRRxPayload :: List.replicate n s.params.nopByte)).1 with
      | .ok rx => .ok (rx.drop 1) (s.framed (Config.cmdRRxPayload :: List.replicate n s.params.nopByte))
      | .short => .error .busError (s.framed (Config.cmdRRxPayload :: List.replicate n s.params.nopByte)) := by
  simp only [readRxPayload, bind_run, look_run, frame_run]
  cases (s.env.answer (Config.cmdRRxPayload :: List.replicate n s.params.nopByte)).1 <;> rfl

/-- `flushTx` is its frame (R126). -/
theorem flushTxFifo_run (s : State) :
    flushTxFifo s = match (s.env.answer [Config.cmdFlushTx]).1 with
      | .ok _ => .ok () (s.framed [Config.cmdFlushTx])
      | .short => .error .busError (s.framed [Config.cmdFlushTx]) := by
  simp only [flushTxFifo, bind_run, frame_run]
  cases (s.env.answer [Config.cmdFlushTx]).1 <;> rfl

/-- `flushRx` is its frame (R127). -/
theorem flushRxFifo_run (s : State) :
    flushRxFifo s = match (s.env.answer [Config.cmdFlushRx]).1 with
      | .ok _ => .ok () (s.framed [Config.cmdFlushRx])
      | .short => .error .busError (s.framed [Config.cmdFlushRx]) := by
  simp only [flushRxFifo, bind_run, frame_run]
  cases (s.env.answer [Config.cmdFlushRx]).1 <;> rfl

/-! ### Sessions and ends -/

/-- A session opens, runs its body, and is closed on success; a raise leaves it to the exit actions. -/
theorem inOneSession_run {α : Type} (body : Act α) (s : State) :
    inOneSession body s = match body s.openSession with
      | .ok v t => .ok v t.closeSession
      | .error e t => .error e t := by
  simp only [inOneSession, bind_run, act_run]
  cases body s.openSession <;> rfl

/-- The exit actions with a session open (R224). -/
theorem State.raised_open {s : State} (h : s.inSession = true) (e : ResultCode) :
    s.raised e = s.closeSession.ended e .none := by
  simp [State.raised, h]

/-- The exit actions with no session open (R224). -/
theorem State.raised_closed {s : State} (h : s.inSession = false) (e : ResultCode) :
    s.raised e = s.ended e .none := by
  simp [State.raised, h]

@[simp] theorem State.raised_mode (s : State) (e : ResultCode) : (s.raised e).mode = s.mode := by
  unfold State.raised; split <;> rfl
@[simp] theorem State.raised_cfg (s : State) (e : ResultCode) : (s.raised e).cfg = s.cfg := by
  unfold State.raised; split <;> rfl
@[simp] theorem State.raised_awb (s : State) (e : ResultCode) : (s.raised e).awb = s.awb := by
  unfold State.raised; split <;> rfl
@[simp] theorem State.raised_p0 (s : State) (e : ResultCode) : (s.raised e).p0 = s.p0 := by
  unfold State.raised; split <;> rfl
@[simp] theorem State.raised_lastStatus (s : State) (e : ResultCode) :
    (s.raised e).lastStatus = s.lastStatus := by
  unfold State.raised; split <;> rfl
@[simp] theorem State.raised_ce (s : State) (e : ResultCode) : (s.raised e).ce = s.ce := by
  unfold State.raised; split <;> rfl
@[simp] theorem State.raised_csn (s : State) (e : ResultCode) : (s.raised e).csn = s.csn := by
  unfold State.raised; split <;> rfl
@[simp] theorem State.raised_inSession (s : State) (e : ResultCode) : (s.raised e).inSession = false := by
  unfold State.raised; split <;> simp_all
@[simp] theorem State.raised_result (s : State) (e : ResultCode) : (s.raised e).result = e := by
  unfold State.raised; split <;> rfl
@[simp] theorem State.raised_phase (s : State) (e : ResultCode) : (s.raised e).phase = .idle := by
  unfold State.raised; split <;> rfl
@[simp] theorem State.raised_reply (s : State) (e : ResultCode) : (s.raised e).reply = .none := by
  unfold State.raised; split <;> rfl
@[simp] theorem State.raised_params (s : State) (e : ResultCode) : (s.raised e).params = s.params := by
  unfold State.raised; split <;> rfl
@[simp] theorem State.raised_env (s : State) (e : ResultCode) : (s.raised e).env = s.env := by
  unfold State.raised; split <;> rfl
@[simp] theorem State.raised_port (s : State) (e : ResultCode) : (s.raised e).port = s.port := by
  unfold State.raised; split <;> rfl

/-- A host command with no other command running is its outcome. -/
theorem hostCommand_idle {s : State} (h : s.phase = .idle) (o : Host.Outcome State Fault Refusal) :
    hostCommand s o = o := by
  simp [hostCommand, h]

/-- A host command that answers a next state ran with none running, and is its outcome (R12). -/
theorem hostCommand_next {s t : State} {o : Host.Outcome State Fault Refusal}
    (h : hostCommand s o = .next t) : s.phase = .idle ∧ o = .next t := by
  unfold hostCommand at h
  split at h
  · exact ⟨‹_›, h⟩
  · cases h

/-- A frame instruction that answers a next state ran in an open session with a legal length (R120, R57). -/
theorem framePrimitive_next {s t : State} {fits : Bool} {body : Act Reply}
    (h : framePrimitive s fits body = .next t) :
    s.inSession = true ∧ fits = true ∧ State.returned (body s) = t := by
  unfold framePrimitive at h
  split at h
  · cases h
  · split at h
    · cases h
    · cases h
      simp_all

end Sys2Proof.Machine
end

