-- ==== Sys2Proof/Laws/PerInstr.lean ====
section
/-! SUPPORT. Per instruction: the first byte of its record is the one its row of spec/opcode_table.json gives, on the
row's side of the two code spaces. -/

namespace Sys2Proof.Laws.FirstByte

/-- A row's place, mask and pattern, as the table has them. -/
structure Row where
  space : Space
  mask  : Byte
  value : Byte
  deriving DecidableEq, Repr

/-- The row of an instruction. -/
def row : Instr → Row
  | .wRegister _ _ => ⟨.framer, 0xE0, 0x20⟩
  | .rRegister _ _ => ⟨.framer, 0xE0, 0x00⟩
  | .rRxPayload _ => ⟨.framer, 0xFF, 0x61⟩
  | .wTxPayload _ => ⟨.framer, 0xFF, 0xA0⟩
  | .flushTxFrame => ⟨.framer, 0xFF, 0xE1⟩
  | .flushRxFrame => ⟨.framer, 0xFF, 0xE2⟩
  | .initialise _ => ⟨.host, 0xFF, 0x01⟩
  | .standbyMode => ⟨.host, 0xFF, 0x02⟩
  | .receiverMode => ⟨.host, 0xFF, 0x03⟩
  | .sendPacket _ => ⟨.host, 0xFF, 0x04⟩
  | .readPacket _ => ⟨.host, 0xFF, 0x05⟩
  | .isPacket => ⟨.host, 0xFF, 0x06⟩
  | .checkStatusIrq => ⟨.host, 0xFF, 0x07⟩
  | .rxDestination _ _ => ⟨.host, 0xFF, 0x08⟩
  | .txDestination _ => ⟨.host, 0xFF, 0x09⟩
  | .payloadSize _ _ => ⟨.host, 0xFF, 0x0A⟩
  | .dynPayloadsEnable => ⟨.host, 0xFF, 0x0B⟩
  | .dynPayloadsDisable => ⟨.host, 0xFF, 0x0C⟩
  | .autoRetransmission _ _ => ⟨.host, 0xFF, 0x0D⟩
  | .rfChannel _ => ⟨.host, 0xFF, 0x0E⟩
  | .rfDataRate _ => ⟨.host, 0xFF, 0x0F⟩
  | .rfPower _ => ⟨.host, 0xFF, 0x10⟩
  | .writeRegister _ _ => ⟨.host, 0xFF, 0x20⟩
  | .readRegisterByte _ => ⟨.host, 0xFF, 0x21⟩
  | .readRegisterBytes _ _ => ⟨.host, 0xFF, 0x22⟩
  | .flushTx => ⟨.host, 0xFF, 0x23⟩
  | .flushRx => ⟨.host, 0xFF, 0x24⟩

/-- Whatever the filler byte, the record stands in the row's place and its first byte fits the row. -/
def Statement (i : Instr) : Prop :=
  ∀ nop : Byte, (encode nop i).space = (row i).space ∧
    ∃ b rest, (encode nop i).bytes = b :: rest ∧ b &&& (row i).mask = (row i).value

/-- The two register commands keep their pattern for every address (R81, R82). -/
theorem pattern_bits (a : BitVec 5) :
    (0b001#3 ++ a : Byte) &&& 0xE0 = 0x20 ∧ (0b000#3 ++ a : Byte) &&& 0xE0 = 0x00 := by
  revert a
  decide

theorem wRegister (addr : BitVec 5) (data : List Byte) : Statement (.wRegister addr data) := fun _ =>
  ⟨rfl, _, _, rfl, (pattern_bits addr).1⟩

theorem rRegister (addr : BitVec 5) (n : Nat) : Statement (.rRegister addr n) := fun _ =>
  ⟨rfl, _, _, rfl, (pattern_bits addr).2⟩

theorem rRxPayload (n : Nat) : Statement (.rRxPayload n) := fun _ =>
  ⟨rfl, _, _, rfl, (by decide : (0x61 : Byte) &&& 0xFF = 0x61)⟩

theorem wTxPayload (payload : List Byte) : Statement (.wTxPayload payload) := fun _ =>
  ⟨rfl, _, _, rfl, (by decide : (0xA0 : Byte) &&& 0xFF = 0xA0)⟩

theorem flushTxFrame : Statement .flushTxFrame := fun _ =>
  ⟨rfl, _, _, rfl, rfl⟩

theorem flushRxFrame : Statement .flushRxFrame := fun _ =>
  ⟨rfl, _, _, rfl, rfl⟩

theorem initialise (cfg : CfgOperand) : Statement (.initialise cfg) := fun _ => by
  cases cfg <;> exact ⟨rfl, _, _, rfl, (by decide : (0x01 : Byte) &&& 0xFF = 0x01)⟩

theorem standbyMode : Statement .standbyMode := fun _ =>
  ⟨rfl, _, _, rfl, rfl⟩

theorem receiverMode : Statement .receiverMode := fun _ =>
  ⟨rfl, _, _, rfl, rfl⟩

theorem sendPacket (payload : List Byte) : Statement (.sendPacket payload) := fun _ =>
  ⟨rfl, _, _, rfl, (by decide : (0x04 : Byte) &&& 0xFF = 0x04)⟩

theorem readPacket (size : Byte) : Statement (.readPacket size) := fun _ =>
  ⟨rfl, _, _, rfl, (by decide : (0x05 : Byte) &&& 0xFF = 0x05)⟩

theorem isPacket : Statement .isPacket := fun _ =>
  ⟨rfl, _, _, rfl, rfl⟩

theorem checkStatusIrq : Statement .checkStatusIrq := fun _ =>
  ⟨rfl, _, _, rfl, rfl⟩

theorem rxDestination (pipe : Byte) (addr : List Byte) : Statement (.rxDestination pipe addr) := fun _ =>
  ⟨rfl, _, _, rfl, (by decide : (0x08 : Byte) &&& 0xFF = 0x08)⟩

theorem txDestination (addr : List Byte) : Statement (.txDestination addr) := fun _ =>
  ⟨rfl, _, _, rfl, (by decide : (0x09 : Byte) &&& 0xFF = 0x09)⟩

theorem payloadSize (pipe : Byte) (size : Byte) : Statement (.payloadSize pipe size) := fun _ =>
  ⟨rfl, _, _, rfl, (by decide : (0x0A : Byte) &&& 0xFF = 0x0A)⟩

theorem dynPayloadsEnable : Statement .dynPayloadsEnable := fun _ =>
  ⟨rfl, _, _, rfl, rfl⟩

theorem dynPayloadsDisable : Statement .dynPayloadsDisable := fun _ =>
  ⟨rfl, _, _, rfl, rfl⟩

theorem autoRetransmission (ard : Byte) (arc : Byte) : Statement (.autoRetransmission ard arc) := fun _ =>
  ⟨rfl, _, _, rfl, (by decide : (0x0D : Byte) &&& 0xFF = 0x0D)⟩

theorem rfChannel (ch : Byte) : Statement (.rfChannel ch) := fun _ =>
  ⟨rfl, _, _, rfl, (by decide : (0x0E : Byte) &&& 0xFF = 0x0E)⟩

theorem rfDataRate (dr : Byte) : Statement (.rfDataRate dr) := fun _ =>
  ⟨rfl, _, _, rfl, (by decide : (0x0F : Byte) &&& 0xFF = 0x0F)⟩

theorem rfPower (pwr : Byte) : Statement (.rfPower pwr) := fun _ =>
  ⟨rfl, _, _, rfl, (by decide : (0x10 : Byte) &&& 0xFF = 0x10)⟩

theorem writeRegister (addr : Byte) (data : List Byte) : Statement (.writeRegister addr data) := fun _ =>
  ⟨rfl, _, _, rfl, (by decide : (0x20 : Byte) &&& 0xFF = 0x20)⟩

theorem readRegisterByte (addr : Byte) : Statement (.readRegisterByte addr) := fun _ =>
  ⟨rfl, _, _, rfl, (by decide : (0x21 : Byte) &&& 0xFF = 0x21)⟩

theorem readRegisterBytes (addr : Byte) (n : Byte) : Statement (.readRegisterBytes addr n) := fun _ =>
  ⟨rfl, _, _, rfl, (by decide : (0x22 : Byte) &&& 0xFF = 0x22)⟩

theorem flushTx : Statement .flushTx := fun _ =>
  ⟨rfl, _, _, rfl, rfl⟩

theorem flushRx : Statement .flushRx := fun _ =>
  ⟨rfl, _, _, rfl, rfl⟩

end Sys2Proof.Laws.FirstByte
end

