-- ==== Sys2Proof/Laws/Play.lean ====
section
/-! SUPPORT. Actions that are lists of items: what such an action does to the state, and how such actions compose. -/

namespace Sys2Proof.Machine

open Sys2Proof.Safety

theorem csnAfter_append (a b : List Event) (l : Level) : csnAfter (a ++ b) l = csnAfter b (csnAfter a l) := by
  induction a generalizing l with
  | nil => rfl
  | cons e a ih => cases e <;> exact ih _

theorem ceAfter_append (a b : List Event) (l : Level) : ceAfter (a ++ b) l = ceAfter b (ceAfter a l) := by
  induction a generalizing l with
  | nil => rfl
  | cons e a ih => cases e <;> exact ih _

theorem sessionAfter_append (a b : List Event) (o : Bool) :
    sessionAfter (a ++ b) o = sessionAfter b (sessionAfter a o) := by
  induction a generalizing o with
  | nil => rfl
  | cons e a ih => cases e <;> exact ih _

@[simp] theorem sessionAfter_frameEvents (tx : List Byte) (r : XferResult) (o : Bool) :
    sessionAfter (frameEvents tx r) o = o := rfl

@[simp] theorem csnAfter_frameEvents (tx : List Byte) (r : XferResult) (l : Level) :
    csnAfter (frameEvents tx r) l = .high := rfl

@[simp] theorem ceAfter_frameEvents (tx : List Byte) (r : XferResult) (l : Level) :
    ceAfter (frameEvents tx r) l = l := rfl

/-- The state after some events, with the environment they leave. -/
def State.observed (s : State) (p : Played) : State :=
  { s with
    csn := csnAfter p.events s.csn
    ce := ceAfter p.events s.ce
    env := p.env
    trace := s.trace ++ p.events }

/-- An action that does a list of items, and raises `BusError` where a frame among them is `short`. -/
def Act.Plays (x : Act Unit) (items : List Item) : Prop :=
  ∀ s, x s =
    if (play items s.env).complete then .ok () (s.observed (play items s.env))
    else .error .busError (s.observed (play items s.env))

/-- Playing two lists one after the other. -/
theorem play_append (a b : List Item) (e : Env) :
    play (a ++ b) e =
      if (play a e).complete then
        ⟨(play a e).events ++ (play b (play a e).env).events, (play b (play a e).env).complete,
          (play b (play a e).env).env⟩
      else play a e := by
  induction a generalizing e with
  | nil => simp [play]
  | cons i a ih =>
    cases i with
    | send tx =>
      rcases h : e.answer tx with ⟨r, e'⟩
      cases r with
      | ok rx => simp only [List.cons_append, play, h, ih]; split <;> simp_all
      | short => simp [play, h]
    | ce l => simp only [List.cons_append, play, ih]; split <;> simp_all
    | csn l => simp only [List.cons_append, play, ih]; split <;> simp_all
    | pause n => simp only [List.cons_append, play, ih]; split <;> simp_all

theorem plays_nil : Act.Plays (pure ()) [] := by
  intro s
  simp [play, State.observed, csnAfter, ceAfter]

/-- Composition: first the items of one action, then those of the next. -/
theorem plays_bind {x y : Act Unit} {a b : List Item} (hx : Act.Plays x a) (hy : Act.Plays y b) :
    Act.Plays (x >>= fun _ => y) (a ++ b) := by
  intro s
  rw [bind_run, hx s, play_append]
  by_cases h : (play a s.env).complete = true
  · simp only [h, if_true]
    rw [hy (s.observed (play a s.env))]
    simp [State.observed, csnAfter_append, ceAfter_append]
  · simp [h]

theorem plays_frame (tx : List Byte) : Act.Plays (frame tx >>= fun _ => pure ()) [.send tx] := by
  intro s
  rw [bind_run, frame_run]
  rcases h : s.env.answer tx with ⟨r, e'⟩
  cases r <;> simp [play, h, State.observed, State.framed, frameEvents, csnAfter, ceAfter]

theorem plays_writeReg (addr : Byte) (v : List Byte) :
    Act.Plays (writeReg addr v) [.send (writeCommand addr :: v)] := plays_frame _

theorem plays_writeTxPayload (p : List Byte) :
    Act.Plays (writeTxPayload p) [.send (Config.cmdWTxPayload :: p)] := plays_frame _

theorem plays_flushTxFifo : Act.Plays flushTxFifo [.send [Config.cmdFlushTx]] := plays_frame _

theorem plays_flushRxFifo : Act.Plays flushRxFifo [.send [Config.cmdFlushRx]] := plays_frame _

theorem plays_driveCE (l : Level) : Act.Plays (act (·.driveCE l)) [.ce l] := fun _ => rfl

theorem plays_driveCSN (l : Level) : Act.Plays (act (·.driveCSN l)) [.csn l] := fun _ => rfl

theorem plays_waited (b : Nat) : Act.Plays (act (·.waited b)) [.pause b] := fun _ => rfl

theorem plays_onlyIf {c : Bool} {x : Act Unit} {a : List Item} (h : Act.Plays x a) :
    Act.Plays (onlyIf c x) (if c then a else []) := by
  cases c
  · exact plays_nil
  · exact h

/-- One session around an action that plays items, ended as a command without data: the state after it. -/
theorem finish_session {body : Act Unit} {items : List Item} (h : Act.Plays body items) (s : State) :
    State.finish ((inOneSession body >>= fun _ => pure .none) s) =
      { afterSession s items .none with
        csn := csnAfter (play items s.env).events s.csn
        ce := ceAfter (play items s.env).events s.ce } := by
  rw [bind_run, inOneSession_run, h s.openSession, State.openSession_env]
  cases hc : (play items s.env).complete
  · simp [hc, State.finish, State.observed, State.raised, State.closeSession, State.ended, State.emit, afterSession,
      State.openSession]
  · simp [hc, State.finish, State.observed, State.closeSession, State.ended, State.emit, afterSession,
      State.openSession]

/-- Frames alone leave CSN high, where there is one, and CE as it was. -/
theorem sends_levels (txs : List (List Byte)) (e : Env) (l m : Level) (h : txs ≠ []) :
    csnAfter (play (txs.map .send) e).events l = .high ∧ ceAfter (play (txs.map .send) e).events m = m := by
  induction txs generalizing e l with
  | nil => exact absurd rfl h
  | cons tx txs ih =>
    rcases ha : e.answer tx with ⟨r, e'⟩
    cases r with
    | short => simp [play, ha]
    | ok rx =>
      simp only [List.map_cons, play, ha, csnAfter_append, ceAfter_append, csnAfter_frameEvents,
        ceAfter_frameEvents]
      cases txs with
      | nil => simp [play, csnAfter, ceAfter]
      | cons tx' txs' => exact ih e' .high (by simp)

/-- A session of frames alone, ended as a command without data (R140 to R142). -/
theorem finish_sends {body : Act Unit} {txs : List (List Byte)} (h : Act.Plays body (txs.map .send))
    (hne : txs ≠ []) (s : State) :
    State.finish ((inOneSession body >>= fun _ => pure .none) s) = afterSession s (txs.map .send) .none := by
  rw [finish_session h, (sends_levels txs s.env s.csn s.ce hne).1, (sends_levels txs s.env s.csn s.ce hne).2]
  rfl

end Sys2Proof.Machine
end

