-- ==== Sys2Proof/Laws/Poll.lean ====
section
/-! SUPPORT. What one poll can do (R200, R201), in the terms of `Safety`: the frame that reads STATUS, then the
clearing frames of the latches it reads set. -/

namespace Sys2Proof.Machine

open Sys2Proof.Safety

/-- The latch tests as bits of STATUS (R95). -/
theorem latch_bits (v : Byte) :
    rxDrSet v = v.getLsbD 6 ∧ txDsSet v = v.getLsbD 5 ∧ maxRtSet v = v.getLsbD 4 := by
  revert v
  decide

/-- The completion test as bits of STATUS (R202, R204). -/
theorem completion_bits (test : CompletionTest) (v : Byte) :
    completion test (priorityCode v) v =
      if v.getLsbD 5 && (decide (test = .set) || !v.getLsbD 6) then .sent
      else if v.getLsbD 4 && (decide (test = .set) || !v.getLsbD 6) then .maxrt
      else .keepPolling := by
  cases test <;> revert v <;> decide

/-- The clearing frames of one poll, each its own STATUS write (R201). -/
def clearAll (v : Byte) : Act Unit := do
  clearLatch v Config.rxDrMask
  clearLatch v Config.txDsMask
  clearLatch v Config.maxRtMask

theorem plays_clearAll (v : Byte) : Act.Plays (clearAll v) (clears v) := by
  obtain ⟨b6, b5, b4⟩ := latch_bits v
  have h := plays_bind (plays_onlyIf (c := rxDrSet v) (plays_writeReg Config.regStatus [Config.rxDrMask]))
    (plays_bind (plays_onlyIf (c := txDsSet v) (plays_writeReg Config.regStatus [Config.txDsMask]))
      (plays_onlyIf (c := maxRtSet v) (plays_writeReg Config.regStatus [Config.maxRtMask])))
  rw [b6, b5, b4] at h
  have e : clears v =
      (if v.getLsbD 6 then [.send [0x27, 0x40] ] else []) ++
        ((if v.getLsbD 5 then [.send [0x27, 0x20] ] else []) ++ (if v.getLsbD 4 then [.send [0x27, 0x10] ] else [])) :=
    List.append_assoc ..
  rw [e]
  have b : clearAll v = (onlyIf (rxDrSet v) (writeReg Config.regStatus [Config.rxDrMask]) >>= fun _ =>
      onlyIf (txDsSet v) (writeReg Config.regStatus [Config.txDsMask]) >>= fun _ =>
      onlyIf (maxRtSet v) (writeReg Config.regStatus [Config.maxRtMask])) := rfl
  rw [b, b6, b5, b4]
  exact h

/-- The clearing frames are frames only, so they leave CE alone and CSN high. -/
theorem clears_levels (v : Byte) (e : Env) (m : Level) :
    csnAfter (play (clears v) e).events .high = .high ∧ ceAfter (play (clears v) e).events m = m := by
  have h : ∃ txs : List (List Byte), clears v = txs.map .send := by
    unfold clears
    cases v.getLsbD 6 <;> cases v.getLsbD 5 <;> cases v.getLsbD 4
    · exact ⟨[], rfl⟩
    · exact ⟨[ [0x27, 0x10] ], rfl⟩
    · exact ⟨[ [0x27, 0x20] ], rfl⟩
    · exact ⟨[ [0x27, 0x20], [0x27, 0x10] ], rfl⟩
    · exact ⟨[ [0x27, 0x40] ], rfl⟩
    · exact ⟨[ [0x27, 0x40], [0x27, 0x10] ], rfl⟩
    · exact ⟨[ [0x27, 0x40], [0x27, 0x20] ], rfl⟩
    · exact ⟨[ [0x27, 0x40], [0x27, 0x20], [0x27, 0x10] ], rfl⟩
  obtain ⟨txs, ht⟩ := h
  by_cases hn : txs = []
  · simp [ht, hn, play, csnAfter, ceAfter]
  · rw [ht]
    exact sends_levels txs e .high m hn

/-- All a poll can do: its read fails; or it reads `v`, and every clearing frame is answered or one of them fails. -/
theorem poll_run (s : State) :
    poll s = match (s.env.answer [0x07, s.params.nopByte]).1 with
      | .short => .error .busError (s.framed [0x07, s.params.nopByte])
      | .ok rx =>
        let v := rx.getD 1 0
        let u := (s.framed [0x07, s.params.nopByte]).withStatus v
        if (play (clears v) u.env).complete then .ok (priorityCode v, v) (u.observed (play (clears v) u.env))
        else .error .busError (u.observed (play (clears v) u.env)) := by
  have hp : poll = (readReg Config.regStatus >>= fun v => act (·.withStatus v) >>= fun _ =>
      clearAll v >>= fun _ => pure (priorityCode v, v)) := by
    funext t
    simp only [poll, clearAll, bind_run]
    cases readReg Config.regStatus t with
    | error e u => rfl
    | ok v u =>
      simp only [act_run]
      cases clearLatch v Config.rxDrMask (u.withStatus v) with
      | error e w => rfl
      | ok a w =>
        simp only
        cases clearLatch v Config.txDsMask w with
        | error e x => rfl
        | ok a x => rfl
  have hc : readCommand Config.regStatus = 0x07 := rfl
  rw [hp, bind_run, readReg_run, hc]
  cases (s.env.answer [0x07, s.params.nopByte]).1 with
  | short => rfl
  | ok rx =>
    simp only [bind_run, act_run]
    rw [plays_clearAll _ _]
    by_cases h : (play (clears (rx.getD 1 0))
        ((s.framed [0x07, s.params.nopByte]).withStatus (rx.getD 1 0)).env).complete = true
    · simp only [h, if_true, pure_run]
    · simp only [h]
      rfl

end Sys2Proof.Machine
end

