-- ==== Sys2Proof/Tests/Slice0.lean ====
section
/-! SUPPORT. The model's own tests: the well-formedness smoke test, decoding of bytes written out from the spec, at most
two one-step tests an instruction with results from 95_test_vectors.md, and a witness for the hypotheses of every
statement. -/

namespace Sys2Proof.Tests

open Sys2Proof Sys2Proof.Machine Sys2Proof.Safety

/-! ### Small states -/

/-- The block part of start state S1 (95_test_vectors.md section 0), its trace emptied. -/
def quiet : State :=
  { mode := .standbyI
    cfg := { aw := 3, dyn := 0, ard := 0x10, arc := 10, dr := 0x00, pwr := 0x06, ch := 110 }
    awb := 5
    p0 := { present := false, addr := [0, 0, 0, 0, 0] }
    lastStatus := 0x00
    ce := .low
    csn := .high
    inSession := false
    result := .ok
    phase := .idle
    reply := .none
    trace := []
    params := { baud := 7500000, baudMaxExact := 7500000, nopByte := 0xFF, completionTest := .set, pollLimit := none }
    env := { answers := [], double := none, draws := 0 }
    port := [] }

/-- S1 with the device's next answers. -/
def rig (answers : List XferResult) : State := { quiet with env := { answers := answers, double := none, draws := 0 } }

/-- The same inside an open session, for the frame instructions. -/
def inside (answers : List XferResult) : State := { rig answers with inSession := true }

/-- The same in receive mode. -/
def listening (answers : List XferResult) : State := { rig answers with mode := .rx, ce := .high }

/-- The same in SEND_PACKET's wait, `polls` polls made. -/
def waitingAt (polls : Nat) (answers : List XferResult) : State := { inside answers with phase := .waiting polls }

/-- A full answer of `n` bytes. -/
def full (n : Nat) : XferResult := .ok (List.replicate n 0x0E)

/-- The address A of the spec's programs. -/
def addrA : List Byte := [0xA1, 0xA2, 0xA3, 0xA4, 0xA5]

/-- The address B of the spec's programs. -/
def addrB : List Byte := [0xB1, 0xB2, 0xB3, 0xB4, 0xB5]

/-- One frame in a trace. -/
def fr (tx rx : List Byte) : List Event := [.setCSN .low, .xfer tx (.ok rx), .setCSN .high]

/-- One failing frame in a trace. -/
def bad (tx : List Byte) : List Event := [.setCSN .low, .xfer tx .short, .setCSN .high]

/-- A session in a trace. -/
def session (events : List Event) : List Event := .acquire 7500000 :: events ++ [.release]

/-- What one step shows: the events, the result code and the reply. -/
def seen : Host.Outcome State Fault Refusal → Option (List Event × ResultCode × Reply)
  | .next t => some (t.trace, t.result, t.reply)
  | .fault _ => none
  | .refused _ => none

/-- One field of the next state. -/
def field {α : Type} (f : State → α) : Host.Outcome State Fault Refusal → Option α
  | .next t => some (f t)
  | .fault _ => none
  | .refused _ => none

/-- The name of a refusal. -/
def refusal : Host.Outcome State Fault Refusal → Option Refusal
  | .next _ => none
  | .fault _ => none
  | .refused r => some r

/-- The bytes sent, frame by frame. -/
def sent : List Event → List (List Byte)
  | [] => []
  | .xfer tx _ :: later => tx :: sent later
  | _ :: later => sent later

/-! ### Well-formedness: a term each check refuses -/

theorem test_wellFormed_wRegister : (Instr.wRegister 0 []).wellFormed = false := by decide
theorem test_wellFormed_rRegister : (Instr.rRegister 0 33).wellFormed = false := by decide
theorem test_wellFormed_rRxPayload : (Instr.rRxPayload 0).wellFormed = false := by decide
theorem test_wellFormed_wTxPayload : (Instr.wTxPayload (List.replicate 33 0)).wellFormed = false := by decide
theorem test_wellFormed_sendPacket : (Instr.sendPacket []).wellFormed = false := by decide
theorem test_wellFormed_readPacket : (Instr.readPacket 33).wellFormed = false := by decide
theorem test_wellFormed_rxDestination_all : (Instr.rxDestination 6 addrA).wellFormed = false := by decide
theorem test_wellFormed_rxDestination_empty : (Instr.rxDestination 2 []).wellFormed = false := by decide
theorem test_wellFormed_txDestination : (Instr.txDestination [1, 2]).wellFormed = false := by decide
theorem test_wellFormed_writeRegister : (Instr.writeRegister 5 []).wellFormed = false := by decide
theorem test_wellFormed_readRegisterBytes : (Instr.readRegisterBytes 5 0).wellFormed = false := by decide

/-! ### Decoding: bytes written out from the encodings of R80 and R101 -/

theorem test_decode_wRegister : decode ⟨.framer, [0b00111101, 0x05]⟩ = .ok (.wRegister 0b11101 [0x05]) := by decide
theorem test_decode_rRegister :
    decode ⟨.framer, [0b00010000, 0xFF, 0xFF, 0xFF, 0xFF, 0xFF]⟩ = .ok (.rRegister 0b10000 5) := by decide
theorem test_decode_rRxPayload : decode ⟨.framer, [0b01100001, 0xFF]⟩ = .ok (.rRxPayload 1) := by decide
theorem test_decode_wTxPayload : decode ⟨.framer, [0b10100000, 0xAA]⟩ = .ok (.wTxPayload [0xAA]) := by decide
theorem test_decode_flushTxFrame : decode ⟨.framer, [0b11100001]⟩ = .ok .flushTxFrame := by decide
theorem test_decode_flushRxFrame : decode ⟨.framer, [0b11100010]⟩ = .ok .flushRxFrame := by decide
theorem test_decode_initialise :
    decode ⟨.host, [0b00000001, 0x01, 0x02, 0x20, 0x00, 0x30, 0x0F, 0x01]⟩ =
      .ok (.initialise (.record ⟨0x01, 0x02, 0x20, 0x00, 0x30, 0x0F, 0x01⟩)) := by decide
theorem test_decode_standbyMode : decode ⟨.host, [0b00000010]⟩ = .ok .standbyMode := by decide
theorem test_decode_receiverMode : decode ⟨.host, [0b00000011]⟩ = .ok .receiverMode := by decide
theorem test_decode_sendPacket : decode ⟨.host, [0b00000100, 1, 2]⟩ = .ok (.sendPacket [1, 2]) := by decide
theorem test_decode_readPacket : decode ⟨.host, [0b00000101, 4]⟩ = .ok (.readPacket 4) := by decide
theorem test_decode_isPacket : decode ⟨.host, [0b00000110]⟩ = .ok .isPacket := by decide
theorem test_decode_checkStatusIrq : decode ⟨.host, [0b00000111]⟩ = .ok .checkStatusIrq := by decide
theorem test_decode_rxDestination :
    decode ⟨.host, [0b00001000, 4, 0xCA]⟩ = .ok (.rxDestination 4 [0xCA]) := by decide
theorem test_decode_txDestination :
    decode ⟨.host, [0b00001001, 0xB1, 0xB2, 0xB3]⟩ = .ok (.txDestination [0xB1, 0xB2, 0xB3]) := by decide
theorem test_decode_payloadSize : decode ⟨.host, [0b00001010, 6, 32]⟩ = .ok (.payloadSize 6 32) := by decide
theorem test_decode_dynPayloadsEnable : decode ⟨.host, [0b00001011]⟩ = .ok .dynPayloadsEnable := by decide
theorem test_decode_dynPayloadsDisable : decode ⟨.host, [0b00001100]⟩ = .ok .dynPayloadsDisable := by decide
theorem test_decode_autoRetransmission :
    decode ⟨.host, [0b00001101, 0x30, 0x0F]⟩ = .ok (.autoRetransmission 0x30 0x0F) := by decide
theorem test_decode_rfChannel : decode ⟨.host, [0b00001110, 0x4C]⟩ = .ok (.rfChannel 0x4C) := by decide
theorem test_decode_rfDataRate : decode ⟨.host, [0b00001111, 0x08]⟩ = .ok (.rfDataRate 0x08) := by decide
theorem test_decode_rfPower : decode ⟨.host, [0b00010000, 0x02]⟩ = .ok (.rfPower 0x02) := by decide
theorem test_decode_writeRegister :
    decode ⟨.host, [0b00100000, 0x05, 0x4C]⟩ = .ok (.writeRegister 0x05 [0x4C]) := by decide
theorem test_decode_readRegisterByte : decode ⟨.host, [0b00100001, 0x27]⟩ = .ok (.readRegisterByte 0x27) := by decide
theorem test_decode_readRegisterBytes :
    decode ⟨.host, [0b00100010, 0x0E, 5]⟩ = .ok (.readRegisterBytes 0x0E 5) := by decide
theorem test_decode_flushTx : decode ⟨.host, [0b00100011]⟩ = .ok .flushTx := by decide
theorem test_decode_flushRx : decode ⟨.host, [0b00100100]⟩ = .ok .flushRx := by decide

/-- V-ENC-7: codes outside the table. -/
theorem test_decode_unassigned :
    decode ⟨.host, [0x11]⟩ = .error (.unassignedCode 0x11) ∧ decode ⟨.host, [0x00]⟩ = .error (.unassignedCode 0x00) ∧
      decode ⟨.host, [0x25]⟩ = .error (.unassignedCode 0x25) ∧ decode ⟨.host, [0xFF]⟩ = .error (.unassignedCode 0xFF) := by
  decide

/-- R86: a command byte of the device that the block never emits. -/
theorem test_decode_noFrame : decode ⟨.framer, [0x60, 0xFF]⟩ = .error (.noFrameCommand 0x60) := by decide

/-- Table words: a one-byte command, and a frame whose operands are zero. -/
theorem test_decode_table_words :
    decodeTableWord 8 0x06 = some .isPacket ∧ decodeTableWord 8 0xE1 = some .flushTxFrame ∧
      decodeTableWord 8 0x61 = some (.rRxPayload 32) := by decide

/-- A placed word runs as the next step. -/
theorem test_step_runs_placed_word : field (·.result) (step (quiet.withFetchWord 8 0x02)) = some .ok := by decide

/-! ### Frames (40_framer.md) -/

/-- W1: the write of RF_CH is 0x25. -/
theorem test_wRegister_frame :
    seen (exec (.wRegister 0x05 [0x4C]) (inside [full 2])) = some (fr [0x25, 0x4C] [0x0E, 0x0E], .ok, .none) := by
  decide

/-- R224 by way of R120: the failing frame releases the session. -/
theorem test_wRegister_short :
    seen (exec (.wRegister 0x05 [0x4C]) (inside [.short])) =
      some (bad [0x25, 0x4C] ++ [.release], .busError, .none) := by decide

/-- V-FRM-6: a read of TX_ADDR. -/
theorem test_rRegister_frame :
    seen (exec (.rRegister 0x10 5) (inside [.ok [0x0E, 1, 2, 3, 4, 5]])) =
      some (fr [0x10, 0xFF, 0xFF, 0xFF, 0xFF, 0xFF] [0x0E, 1, 2, 3, 4, 5], .ok, .bytes [1, 2, 3, 4, 5]) := by decide

/-- V-POL-10, the frame alone. -/
theorem test_rRxPayload_frame :
    seen (exec (.rRxPayload 4) (inside [.ok [0x40, 1, 2, 3, 4]])) =
      some (fr [0x61, 0xFF, 0xFF, 0xFF, 0xFF] [0x40, 1, 2, 3, 4], .ok, .bytes [1, 2, 3, 4]) := by decide

/-- V-SEQ-5, the payload frame. -/
theorem test_wTxPayload_frame :
    field (fun t => sent t.trace) (exec (.wTxPayload [1, 2, 3, 4]) (inside [full 5])) =
      some [ [0xA0, 1, 2, 3, 4] ] := by decide

/-- R84: one byte. -/
theorem test_flushTxFrame : seen (exec .flushTxFrame (inside [full 1])) = some (fr [0xE1] [0x0E], .ok, .none) := by
  decide

/-- R84: one byte. -/
theorem test_flushRxFrame : seen (exec .flushRxFrame (inside [full 1])) = some (fr [0xE2] [0x0E], .ok, .none) := by
  decide

/-! ### The mode sequencer (95_test_vectors.md section 4) -/

/-- The answers of a whole INITIALISE. -/
def initAnswers : List XferResult := List.replicate 9 (full 2) ++ List.replicate 2 (full 1)

/-- V-SEQ-1: the frames of the default configuration. -/
theorem test_initialise_frames :
    field (fun t => (sent t.trace, t.mode, t.result)) (exec (.initialise .defaultCfg) (rig initAnswers)) =
      some ([ [0x20, 0x0E], [0x21, 0x3F], [0x23, 0x03], [0x24, 0x1A], [0x25, 0x6E], [0x26, 0x06], [0x3D, 0x05],
        [0x3C, 0x00], [0x27, 0x70], [0xE1], [0xE2] ], .standbyI, .ok) := by decide

/-- V-SEQ-3: an address width of 4 writes nothing. -/
theorem test_initialise_invalid :
    seen (exec (.initialise (.record ⟨0x04, 0x6E, 0x00, 0x06, 0x10, 0x0A, 0⟩)) (rig [])) =
      some ([], .parameterError, .none) := by decide

/-- V-SEQ-13. -/
theorem test_standbyMode_from_rx :
    seen (exec .standbyMode (listening [.ok [0x0E, 0x0F], full 2])) =
      some (session (fr [0x00, 0xFF] [0x0E, 0x0F] ++ fr [0x20, 0x0E] [0x0E, 0x0E] ++ [.setCE .low, .wait 130]), .ok,
        .none) := by decide

/-- V-SEQ-12: the no-op. -/
theorem test_standbyMode_noop : seen (exec .standbyMode (rig [])) = some ([], .ok, .none) := by decide

/-- V-SEQ-14: the cached address is written back. -/
theorem test_receiverMode_restores :
    field (fun t => (sent t.trace, t.mode, t.ce))
        (exec .receiverMode { rig [.ok [0x0E, 0x0E], full 2, full 6] with p0 := { present := true, addr := addrA } }) =
      some ([ [0x00, 0xFF], [0x20, 0x0F], [0x2A, 0xA1, 0xA2, 0xA3, 0xA4, 0xA5] ], .rx, .high) := by decide

/-- W6: the second call writes no CONFIG. -/
theorem test_receiverMode_again :
    seen (exec .receiverMode (listening [.ok [0x0E, 0x0F]])) =
      some (session (fr [0x00, 0xFF] [0x0E, 0x0F] ++ [.setCE .high, .wait 130]), .ok, .none) := by decide

/-- V-SEQ-5 up to the wait. -/
theorem test_sendPacket_pulse :
    field (fun t => (t.trace, t.mode, t.phase)) (exec (.sendPacket [1, 2, 3, 4]) (rig [full 5])) =
      some (.acquire 7500000 :: fr [0xA0, 1, 2, 3, 4] [0x0E, 0x0E, 0x0E, 0x0E, 0x0E] ++
        [.setCE .high, .wait 10, .setCE .low], .standbyI, .waiting 0) := by decide

/-- V-SEQ-8: the pre-step fails. -/
theorem test_sendPacket_prestep_fails :
    field (fun t => (t.trace, t.mode, t.ce, t.result)) (exec (.sendPacket [0x55]) (listening [.short])) =
      some (session (bad [0x00, 0xFF]), .rx, .high, .busError) := by decide

/-- V-SEQ-5: the poll that reads TX_DS ends the wait, clearing that latch only. -/
theorem test_wait_sent :
    seen (step (waitingAt 1 [.ok [0x2E, 0x2E], full 2])) =
      some (fr [0x07, 0xFF] [0x2E, 0x2E] ++ fr [0x27, 0x20] [0x0E, 0x0E] ++ [.release], .ok, .none) := by decide

/-- V-SEQ-6: the poll that reads MAX_RT flushes. -/
theorem test_wait_maxrt :
    seen (step (waitingAt 0 [.ok [0x1E, 0x1E], full 2, full 1])) =
      some (fr [0x07, 0xFF] [0x1E, 0x1E] ++ fr [0x27, 0x10] [0x0E, 0x0E] ++ fr [0xE1] [0x0E] ++ [.release],
        .retryExhausted, .none) := by decide

/-! ### Configuration (95_test_vectors.md section 5) -/

/-- V-CFG-2: pipe 4, one byte, one enabling write. -/
theorem test_rxDestination_enables :
    field (fun t => sent t.trace) (exec (.rxDestination 4 [0xCA, 0x11]) (rig [full 2, .ok [0x0E, 0x03], full 2])) =
      some [ [0x2E, 0xCA], [0x02, 0xFF], [0x22, 0x13] ] := by decide

/-- V-CFG-4: a failing address frame leaves the cache. -/
theorem test_rxDestination_short :
    field (fun t => (t.p0.present, t.result)) (exec (.rxDestination 0 addrA) (rig [.short])) =
      some (false, .busError) := by decide

/-- W4: the sixth byte is not sent. -/
theorem test_txDestination_both :
    field (fun t => sent t.trace) (exec (.txDestination [0xE7, 0xE7, 0xE7, 0xE7, 0xE7, 0x99]) (rig [full 6, full 6])) =
      some [ [0x30, 0xE7, 0xE7, 0xE7, 0xE7, 0xE7], [0x2A, 0xE7, 0xE7, 0xE7, 0xE7, 0xE7] ] := by decide

/-- W10: `ALL` accepts 32. -/
theorem test_payloadSize_all :
    field (fun t => sent t.trace) (exec (.payloadSize 6 32) (rig (List.replicate 6 (full 2)))) =
      some [ [0x31, 0x20], [0x32, 0x20], [0x33, 0x20], [0x34, 0x20], [0x35, 0x20], [0x36, 0x20] ] := by decide

/-- W10: 33 is rejected. -/
theorem test_payloadSize_bound :
    seen (exec (.payloadSize 6 33) (rig [])) = some ([], .parameterError, .none) := by decide

/-- V-CFG-13. -/
theorem test_dynPayloadsEnable :
    field (fun t => (sent t.trace, t.cfg.dyn)) (exec .dynPayloadsEnable (rig [full 2, full 2])) =
      some ([ [0x3D, 0x05], [0x3C, 0x3F] ], 1) := by decide

/-- V-CFG-14. -/
theorem test_dynPayloadsDisable :
    field (fun t => (sent t.trace, t.cfg.dyn)) (exec .dynPayloadsDisable (rig [full 2])) =
      some ([ [0x3C, 0x00] ], 0) := by decide

/-- V-CFG-16. -/
theorem test_autoRetransmission :
    field (fun t => (sent t.trace, t.cfg.ard, t.cfg.arc)) (exec (.autoRetransmission 0x30 0x0F) (rig [full 2])) =
      some ([ [0x24, 0x3F] ], 0x30, 15) := by decide

/-- V-CFG-17: a count of 16. -/
theorem test_autoRetransmission_bound :
    seen (exec (.autoRetransmission 0x10 0x10) (rig [])) = some ([], .parameterError, .none) := by decide

/-- V-CFG-20: the cache was committed before the failing frame. -/
theorem test_rfChannel_short :
    field (fun t => (t.trace, t.cfg.ch, t.result)) (exec (.rfChannel 0x4C) (rig [.short])) =
      some (session (bad [0x25, 0x4C]), 76, .busError) := by decide

/-- V-CFG-19: 126 is rejected. -/
theorem test_rfChannel_bound : seen (exec (.rfChannel 0x7E) (rig [])) = some ([], .parameterError, .none) := by decide

/-- V-CFG-21: the power bits come from the cache. -/
theorem test_rfDataRate :
    field (fun t => (sent t.trace, t.cfg.dr)) (exec (.rfDataRate 0x08) (rig [full 2])) =
      some ([ [0x26, 0x0E] ], 0x08) := by decide

/-- W7: RF_POWER with the data rate 0x00 cached. -/
theorem test_rfPower :
    field (fun t => (sent t.trace, t.cfg.pwr)) (exec (.rfPower 0x04) (rig [full 2])) =
      some ([ [0x26, 0x04] ], 0x04) := by decide

/-! ### Raw registers, the poller, receiving (95_test_vectors.md sections 3 and 6) -/

/-- V-FRM-2: the top three address bits are dropped. -/
theorem test_writeRegister_masks :
    seen (exec (.writeRegister 0xE7 [0x70]) (rig [full 2])) =
      some (session (fr [0x27, 0x70] [0x0E, 0x0E]), .ok, .none) := by decide

/-- V-FRM-3: 0x27 is read as register 7. -/
theorem test_readRegisterByte_masks :
    seen (exec (.readRegisterByte 0x27) (rig [.ok [0x0E, 0x0E]])) =
      some (session (fr [0x07, 0xFF] [0x0E, 0x0E]), .ok, .byte 0x0E) := by decide

/-- V-FRM-5. -/
theorem test_readRegisterBytes_one :
    seen (exec (.readRegisterBytes 0x05 1) (rig [.ok [0x0E, 0x6E]])) =
      some (session (fr [0x05, 0xFF] [0x0E, 0x6E]), .ok, .bytes [0x6E]) := by decide

/-- V-FRM-7. -/
theorem test_flushTx : seen (exec .flushTx (rig [full 1])) = some (session (fr [0xE1] [0x0E]), .ok, .none) := by decide

/-- V-FRM-8. -/
theorem test_flushRx : seen (exec .flushRx (rig [full 1])) = some (session (fr [0xE2] [0x0E]), .ok, .none) := by decide

/-- V-POL-3: all three latches, three clearing writes in order. -/
theorem test_checkStatusIrq_all :
    field (fun t => (sent t.trace, t.reply, t.lastStatus))
        (exec .checkStatusIrq (rig [.ok [0x7E, 0x7E], full 2, full 2, full 2])) =
      some ([ [0x07, 0xFF], [0x27, 0x40], [0x27, 0x20], [0x27, 0x10] ], .status .rxDr 0x7E, 0x7E) := by decide

/-- V-POL-12: the clearing write fails after the status was recorded. -/
theorem test_checkStatusIrq_short :
    field (fun t => (t.result, t.lastStatus)) (exec .checkStatusIrq (rig [.ok [0x2E, 0x2E], .short])) =
      some (.busError, 0x2E) := by decide

/-- V-POL-7: the pipe number of 0x42 is 1. -/
theorem test_isPacket_available :
    field (·.reply) (exec .isPacket (rig [.ok [0x42, 0x42], full 2])) = some (.available 1) := by decide

/-- V-POL-9: no packet, but TX_DS is consumed. -/
theorem test_isPacket_consumes :
    field (fun t => (sent t.trace, t.reply)) (exec .isPacket (rig [.ok [0x2E, 0x2E], full 2])) =
      some ([ [0x07, 0xFF], [0x27, 0x20] ], .noPacket) := by decide

/-- V-POL-10. -/
theorem test_readPacket :
    seen (exec (.readPacket 4) (rig [.ok [0x40, 1, 2, 3, 4]])) =
      some (session (fr [0x61, 0xFF, 0xFF, 0xFF, 0xFF] [0x40, 1, 2, 3, 4]), .ok, .bytes [1, 2, 3, 4]) := by decide

/-- V-POL-11. -/
theorem test_readPacket_refused : refusal (exec (.readPacket 0) (rig [])) = some .packetSize := by decide

/-- V-POL-13: the two completion tests. -/
theorem test_completion_tests :
    [0x0E, 0x2E, 0x1E, 0x3E, 0x4E, 0x6E, 0x5E, 0x7E].map (fun s : Byte =>
        (completion .set (priorityCode s) s, completion .priority (priorityCode s) s)) =
      [(.keepPolling, .keepPolling), (.sent, .sent), (.maxrt, .maxrt), (.sent, .sent), (.keepPolling, .keepPolling),
        (.sent, .keepPolling), (.maxrt, .keepPolling), (.sent, .keepPolling)] := by decide

/-! ### The device double -/

/-- The double of start state S0 (95_test_vectors.md section 0) with the script (1, sent). -/
def doubleS0 : Double := (Double.initial 1 .sent).setStatus 0x0E

/-- R63: the contents a test does not give. -/
theorem test_double_default_contents : (Double.initial 1 .sent).regs.toList = List.replicate 32 ⟨0, 0, 0, 0, 0⟩ := by
  decide

/-- R67, R68: armed by CE with a payload queued, the first status read shows TX_DS and takes the payload. -/
theorem test_double_script :
    (({ doubleS0 with txFifo := [ [0x55] ] }.onCE .high).answer [0x07, 0xFF] (fun _ => 0)).1 = .ok [0x2E, 0x2E] ∧
      (({ doubleS0 with txFifo := [ [0x55] ] }.onCE .high).answer [0x07, 0xFF] (fun _ => 0)).2.txFifo = [] := by
  decide

/-- W9: the effective address of pipe 4. -/
theorem test_double_pipe4 :
    (((doubleS0.writeRegister 0x0B [0xC7, 0xC7, 0xC7, 0xC7, 0xC7]).writeRegister 0x0E [0xCA]).answer
        [0x0E, 0xFF, 0xFF, 0xFF, 0xFF, 0xFF] (fun _ => 0)).1 = .ok [0x0E, 0xCA, 0xC7, 0xC7, 0xC7, 0xC7] := by decide

/-! ### Witnesses: the hypotheses of each statement hold together somewhere, at the edges of their ranges -/

/-- A payload or data list at each end of its range. -/
theorem witness_DecodeOfEncodedInstruction :
    (Instr.wRegister 0x1F [0]).wellFormed = true ∧ (Instr.sendPacket (List.replicate 32 0)).wellFormed = true ∧
      (Instr.rxDestination 5 [1]).wellFormed = true ∧ (Instr.rxDestination 255 []).wellFormed = true ∧
      (Instr.txDestination [1, 2, 3]).wellFormed = true ∧ (Instr.readRegisterBytes 0 32).wellFormed = true := by decide

theorem witness_DecodedHostRecordIsItsEncoding :
    decode ⟨.host, [0x04]⟩ = .ok (.sendPacket []) ∧ decode ⟨.host, [0x24]⟩ = .ok .flushRx := by decide

theorem witness_DecodedFrameIsItsEncoding :
    (decode ⟨.framer, 0x1F :: [0xFF]⟩ = .ok (.rRegister 0x1F 1) ∧
      ((0x1F : Byte) &&& 0xE0 = 0x00 ∨ (0x1F : Byte) = 0x61 → ∀ b ∈ [(0xFF : Byte)], b = 0xFF)) ∧
    (decode ⟨.framer, 0x3F :: [0x07]⟩ = .ok (.wRegister 0x1F [0x07]) ∧
      ((0x3F : Byte) &&& 0xE0 = 0x00 ∨ (0x3F : Byte) = 0x61 → ∀ b ∈ [(0x07 : Byte)], b = 0xFF)) := by decide

theorem witness_StepRunsDecodedInstruction :
    ({ quiet with port := [⟨.host, [0x07]⟩] } : State).phase = .idle ∧ decode ⟨.host, [0x07]⟩ = .ok .checkStatusIrq := by
  decide

theorem witness_StepWaitsForHost : quiet.phase = .idle ∧ quiet.port = [] := by decide

theorem witness_CommandsNeverOverlap :
    isHostCommand .standbyMode ∧ (waitingAt 0 []).phase ≠ .idle ∧
      (field (·.phase) (step (waitingAt 0 [.ok [0x0E, 0x0E]]))) = some (.waiting 1) := by
  unfold isHostCommand
  decide

theorem quiet_cfgLegal : cfgLegal quiet.cfg := by
  unfold cfgLegal
  decide

theorem quiet_blockInv (answers : List XferResult) : BlockInv (rig answers) where
  cache := quiet_cfgLegal
  width := rfl
  pipe0 := nofun
  mode := nofun
  result := nofun
  session := ⟨nofun, fun h => absurd rfl h⟩
  wait := fun h => absurd rfl h
  csn := fun h => absurd rfl h

/-- A state in the wait that meets both invariants, and whose next step is the turn that ends it. -/
theorem waiting_blockInv (answers : List XferResult) :
    BlockInv { waitingAt 3 answers with trace := [.acquire 7500000] } where
  cache := quiet_cfgLegal
  width := rfl
  pipe0 := nofun
  mode := nofun
  result := nofun
  session := ⟨fun _ => nofun, fun _ => rfl⟩
  wait := fun _ => ⟨rfl, rfl⟩
  csn := fun _ => rfl

theorem witness_StepKeepsBlockInvariant :
    (∃ t, BlockInv quiet ∧ step quiet = .next t) ∧
      ∃ s t, s.phase ≠ .idle ∧ BlockInv s ∧ step s = .next t :=
  ⟨⟨_, quiet_blockInv [], rfl⟩, ⟨_, _, (by decide : Phase.waiting 3 ≠ .idle), waiting_blockInv [.ok [0x2E, 0x2E], full 2], rfl⟩⟩

theorem witness_StepKeepsBusProtocol :
    ∃ s t, s.phase ≠ .idle ∧ BlockInv s ∧ BusProtocol s ∧ step s = .next t :=
  ⟨_, _, (by decide : Phase.waiting 3 ≠ .idle), waiting_blockInv [.ok [0x2E, 0x2E], full 2], rfl, rfl⟩

theorem witness_StepExtendsTrace : ∃ s t, step s = .next t ∧ t.trace ≠ s.trace :=
  ⟨waitingAt 0 [.ok [0x0E, 0x0E]], _, rfl, by decide⟩

theorem witness_ModeWrittenOnlyBySequencer :
    (¬isModeCommand (.rfChannel 2) ∧ ∃ t, exec (.rfChannel 2) (rig [full 2]) = .next t) ∧
      ∃ t, (waitingAt 0 [.short]).phase ≠ .idle ∧ step (waitingAt 0 [.short]) = .next t :=
  ⟨⟨id, _, rfl⟩, _, nofun, rfl⟩

theorem witness_FieldsHaveOnlyTheirWriters :
    (∃ t, exec (.rxDestination 1 addrA) (rig [full 6, full 2, full 2]) = .next t) ∧
      (∀ a, Instr.rxDestination 1 addrA ≠ .rxDestination 0 a) ∧ ¬isModeCommand (.rxDestination 1 addrA) ∧
      (∀ c, Instr.rxDestination 1 addrA ≠ .initialise c) :=
  ⟨⟨_, rfl⟩, fun _ h => absurd (Instr.rxDestination.inj h).1 (by decide), id, nofun⟩

theorem witness_SetupCommandsIgnoreMode :
    isSetupCommand (.rfChannel 125) ∧ ∃ t, exec (.rfChannel 125) (listening [full 2]) = .next t := ⟨trivial, _, rfl⟩

theorem witness_TransferAnswersInFull :
    ∃ e', (rig [.ok [0x0E, 0x01]]).env.answer [0x07, 0xFF] = (.ok [0x0E, 0x01], e') := ⟨_, rfl⟩

/-- R226, each refused form at the edges of its range: codes 0x00, 0x11, 0x1F, 0x25, 0xFF; pipes 0, 1, 2, 5; lengths 0, 4
(with a width of 5) and 33. -/
theorem witness_RefusedForms :
    refusal (step { quiet with port := [⟨.host, [0x00]⟩] }) = some (.undecodable (.unassignedCode 0x00)) ∧
    refusal (step { quiet with port := [⟨.host, [0x11]⟩] }) = some (.undecodable (.unassignedCode 0x11)) ∧
    refusal (step { quiet with port := [⟨.host, [0x1F]⟩] }) = some (.undecodable (.unassignedCode 0x1F)) ∧
    refusal (step { quiet with port := [⟨.host, [0x25]⟩] }) = some (.undecodable (.unassignedCode 0x25)) ∧
    refusal (step { quiet with port := [⟨.host, [0xFF]⟩] }) = some (.undecodable (.unassignedCode 0xFF)) ∧
    refusal (exec (.rxDestination 6 addrA) quiet) = some .pipeAll ∧
    refusal (exec (.rxDestination 0 [1, 2, 3, 4]) quiet) = some .shortAddress ∧
    refusal (exec (.rxDestination 1 []) quiet) = some .shortAddress ∧
    refusal (exec (.rxDestination 2 []) quiet) = some .shortAddress ∧
    refusal (exec (.rxDestination 5 []) quiet) = some .shortAddress ∧
    refusal (exec (.txDestination [1, 2, 3, 4]) quiet) = some .shortAddress ∧
    refusal (exec (.sendPacket []) quiet) = some .payloadLength ∧
    refusal (exec (.sendPacket (List.replicate 33 0)) quiet) = some .payloadLength ∧
    refusal (exec (.writeRegister 0x0A (List.replicate 33 0)) quiet) = some .dataLength ∧
    refusal (exec (.writeRegister 0x0A []) quiet) = some .dataLength ∧
    refusal (exec (.readPacket 0) quiet) = some .packetSize ∧
    refusal (exec (.readPacket 33) quiet) = some .packetSize ∧
    refusal (exec (.readRegisterBytes 0x0A 0) quiet) = some .readCount ∧
    refusal (exec (.readRegisterBytes 0x0A 33) quiet) = some .readCount := by decide

theorem witness_ParameterErrorCauses :
    (quiet.phase = .idle ∧ operandOutOfDomain (.rfChannel 1) ∧ operandOutOfDomain (.rfChannel 126) ∧
      operandOutOfDomain (.rxDestination 7 []) ∧ operandOutOfDomain (.payloadSize 0 0) ∧
      operandOutOfDomain (.payloadSize 7 33) ∧ operandOutOfDomain (.autoRetransmission 0x10 16) ∧
      operandOutOfDomain (.rfDataRate 0x28) ∧ operandOutOfDomain (.rfPower 0x07) ∧
      operandOutOfDomain (.initialise (.record ⟨0, 110, 0, 6, 0x10, 10, 0⟩))) ∧
    (∃ t, exec (.rfChannel 126) quiet = .next t ∧ t.result = .parameterError ∧ quiet.result ≠ .parameterError) := by
  refine ⟨⟨rfl, .inl (by decide), .inr (by decide), ?_, .inl (by decide), .inr (.inl (by decide)), .inr (by decide),
    ?_, ?_, ?_⟩, _, rfl, rfl, nofun⟩
  · exact (by decide : 7 ≤ (7 : Byte).toNat)
  · exact (by decide : (0x28 : Byte) ∉ [0x00#8, 0x08#8, 0x20#8])
  · exact (by decide : (0x07 : Byte) ∉ [0x00#8, 0x02#8, 0x04#8, 0x06#8])
  · exact fun h => absurd h.1 (by decide)

theorem witness_FramePreconditions :
    (¬isHostCommand .flushTxFrame ∧ quiet.inSession = false) ∧
      (¬isHostCommand (.rRegister 0 33) ∧ (inside []).inSession = true ∧ (Instr.rRegister 0 33).wellFormed = false) ∧
      (¬isHostCommand (.wRegister 0 []) ∧ (Instr.wRegister 0 []).wellFormed = false) := by
  unfold isHostCommand
  decide

theorem witness_WriteFrameEffect :
    (inside []).inSession = true ∧ 1 ≤ [(0 : Byte)].length ∧ (List.replicate 32 (0 : Byte)).length ≤ 32 := by decide

theorem witness_ReadFrameEffect :
    (inside []).inSession = true ∧ (1 ≤ 1 ∧ 1 ≤ 32) ∧ (1 ≤ 32 ∧ 32 ≤ 32) := by decide

theorem witness_FlushFrameEffect : (inside [.short]).inSession = true := by decide

theorem witness_WriteRegisterEffect :
    quiet.phase = .idle ∧ 1 ≤ [(0 : Byte)].length ∧ (List.replicate 32 (0 : Byte)).length ≤ 32 ∧
      ([] : List Byte).length = 0 ∧ 32 < (List.replicate 33 (0 : Byte)).length := by decide

theorem witness_ReadRegisterEffect :
    quiet.phase = .idle ∧ (1 ≤ (1 : Byte).toNat ∧ (1 : Byte).toNat ≤ 32) ∧
      (1 ≤ (32 : Byte).toNat ∧ (32 : Byte).toNat ≤ 32) ∧ (0 : Byte).toNat = 0 ∧ 32 < (33 : Byte).toNat := by decide

theorem witness_FlushCommandEffect : quiet.phase = .idle := by decide

theorem witness_InitialiseEffect :
    quiet.phase = .idle ∧ cfgInDomain ⟨1, 2, 0x00, 0x00, 0x00, 0, 0⟩ ∧ cfgInDomain ⟨3, 125, 0x20, 0x06, 0x30, 15, 1⟩ ∧
      ¬cfgInDomain ⟨4, 110, 0x00, 0x06, 0x10, 10, 0⟩ ∧ ¬cfgInDomain ⟨3, 110, 0x00, 0x06, 0x10, 16, 0⟩ := by
  unfold cfgInDomain
  decide

theorem witness_StandbyModeEffect :
    ((listening []).phase = .idle ∧ (listening []).mode = .rx) ∧ (quiet.phase = .idle ∧ quiet.mode ≠ .rx) ∧
      ({ quiet with mode := .pd } : State).mode ≠ .rx := by decide

theorem witness_ReceiverModeEffect : quiet.phase = .idle ∧ ({ quiet with mode := .pd } : State).phase = .idle := by decide

theorem witness_SendPacketEffect :
    quiet.phase = .idle ∧ quiet.mode ≠ .rx ∧ 1 ≤ [(0 : Byte)].length ∧ (List.replicate 32 (0 : Byte)).length ≤ 32 := by
  decide

/-- Both clauses: the pre-step ends with `Ok`, and it fails. -/
theorem witness_SendPacketLeavesReceiver :
    (∃ u, (listening [.ok [0x0E, 0x0F], full 2]).mode = .rx ∧
      exec .standbyMode (listening [.ok [0x0E, 0x0F], full 2]) = .next u ∧ u.result = .ok) ∧
    (∃ u, (listening [.short]).mode = .rx ∧ exec .standbyMode (listening [.short]) = .next u ∧ u.result ≠ .ok) :=
  ⟨⟨_, rfl, rfl, rfl⟩, ⟨_, rfl, rfl, nofun⟩⟩

theorem witness_WaitTurnEffect :
    ((waitingAt 0 []).phase = .waiting 0 ∧ (waitingAt 0 []).inSession = true) ∧ (waitingAt 7 []).phase = .waiting 7 := by
  decide

/-- Two quiet polls, then TX_DS. -/
def quietTwice : List (Byte × Byte) := [(0x0E, 0x0E), (0x0E, 0x8F)]

theorem quietTwice_quiet : ∀ q ∈ quietTwice, q.2 &&& 0x70 = 0x00 := by
  simp [quietTwice]

/-- The answers of `quietTwice` and then of a poll that reads TX_DS and is cleared. -/
def sentThird : List XferResult :=
  quietTwice.map (fun q => .ok [q.1, q.2]) ++ .ok [0x2E, 0x2E] :: .ok [0x0E, 0x0E] :: []

theorem witness_SendEndsAtNthPoll :
    (waitingAt 0 sentThird).phase = .waiting 0 ∧ (waitingAt 0 sentThird).inSession = true ∧
      (waitingAt 0 sentThird).params.pollLimit = none ∧ (∀ q ∈ quietTwice, q.2 &&& 0x70 = 0x00) ∧
      (0x2E : Byte) &&& 0x70 = 0x20 ∧ [(0x0E : Byte), 0x0E].length = 2 ∧
      (waitingAt 0 sentThird).env.answers =
        quietTwice.map (fun q => .ok [q.1, q.2]) ++ .ok [0x2E, 0x2E] :: .ok [0x0E, 0x0E] :: [] :=
  ⟨rfl, rfl, rfl, quietTwice_quiet, by decide, rfl, rfl⟩

theorem witness_WaitWithoutLatchGoesOn :
    (waitingAt 0 sentThird).phase = .waiting 0 ∧ (waitingAt 0 sentThird).inSession = true ∧
      (waitingAt 0 sentThird).params.pollLimit = none ∧ (∀ q ∈ quietTwice, q.2 &&& 0x70 = 0x00) ∧
      (waitingAt 0 sentThird).env.answers =
        quietTwice.map (fun q => .ok [q.1, q.2]) ++ [.ok [0x2E, 0x2E], .ok [0x0E, 0x0E]] :=
  ⟨rfl, rfl, rfl, quietTwice_quiet, rfl⟩

/-- The same wait with a poll limit of two, the flush answered. -/
def limited : State :=
  { waitingAt 0 (quietTwice.map (fun q => .ok [q.1, q.2]) ++ .ok [0x0E] :: []) with
    params := { quiet.params with pollLimit := some 2 } }

theorem witness_TimeoutAtPollLimit :
    limited.phase = .waiting 0 ∧ limited.inSession = true ∧ limited.params.pollLimit = some quietTwice.length ∧
      (∀ q ∈ quietTwice, q.2 &&& 0x70 = 0x00) ∧
      limited.env.answers = quietTwice.map (fun q => .ok [q.1, q.2]) ++ .ok [0x0E] :: [] :=
  ⟨rfl, rfl, rfl, quietTwice_quiet, rfl⟩

/-- Pipes 0 and 1 with five bytes, pipes 2 and 5 with one; pipes 6, 7 and 255; short buffers. -/
theorem witness_RxDestinationEffect :
    quiet.phase = .idle ∧ ((0 : Byte).toNat ≤ 5 ∧ quiet.awb.toNat ≤ addrA.length) ∧
      ((1 : Byte).toNat ≤ 1 ∧ quiet.awb.toNat ≤ addrA.length) ∧ ((2 : Byte).toNat ≤ 5 ∧ 1 ≤ [(0xCA : Byte)].length) ∧
      ((5 : Byte).toNat ≤ 5 ∧ 1 ≤ [(0xCA : Byte)].length) ∧ (6 : Byte).toNat = 6 ∧ 7 ≤ (7 : Byte).toNat ∧
      7 ≤ (255 : Byte).toNat ∧ [(1 : Byte), 2, 3, 4].length < quiet.awb.toNat ∧ ([] : List Byte).length < 1 := by decide

theorem witness_TxDestinationEffect :
    quiet.phase = .idle ∧ quiet.awb.toNat ≤ addrB.length ∧ [(1 : Byte), 2, 3, 4].length < quiet.awb.toNat := by decide

/-- The answers of RX_DESTINATION of pipe 0, TX_DESTINATION and RECEIVER_MODE, every frame answered. -/
def threeCommands : List XferResult :=
  [full 6, .ok [0x0E, 0x00], full 2, full 6, full 6, .ok [0x0E, 0x0E], full 2, full 6]

theorem witness_PipeZeroRestored :
    ∃ s1 s2 s3, exec (.rxDestination 0 addrA) (rig threeCommands) = .next s1 ∧ s1.result = .ok ∧
      exec (.txDestination addrB) s1 = .next s2 ∧ s2.result = .ok ∧ exec .receiverMode s2 = .next s3 ∧
      s3.result = .ok :=
  ⟨_, _, _, rfl, rfl, rfl, rfl, rfl, rfl⟩

theorem witness_PayloadSizeEffect :
    quiet.phase = .idle ∧ (1 ≤ (1 : Byte).toNat ∧ (1 : Byte).toNat ≤ 32) ∧
      (1 ≤ (32 : Byte).toNat ∧ (32 : Byte).toNat ≤ 32) ∧ (0 : Byte).toNat ≤ 5 ∧ (5 : Byte).toNat ≤ 5 ∧
      (6 : Byte).toNat = 6 ∧ (0 : Byte).toNat < 1 ∧ 32 < (33 : Byte).toNat ∧ 7 ≤ (7 : Byte).toNat := by decide

theorem witness_DynPayloadsEffect : quiet.phase = .idle := by decide

theorem witness_AutoRetransmissionEffect :
    quiet.phase = .idle ∧ ((0x30 : Byte) ∈ [0x00#8, 0x10#8, 0x20#8, 0x30#8] ∧ (15 : Byte).toNat ≤ 15) ∧
      ¬((0x30 : Byte) ∈ [0x00#8, 0x10#8, 0x20#8, 0x30#8] ∧ (16 : Byte).toNat ≤ 15) := by decide

theorem witness_RfChannelEffect :
    quiet.phase = .idle ∧ (2 ≤ (2 : Byte).toNat ∧ (2 : Byte).toNat ≤ 125) ∧
      (2 ≤ (125 : Byte).toNat ∧ (125 : Byte).toNat ≤ 125) ∧ ¬(2 ≤ (1 : Byte).toNat ∧ (1 : Byte).toNat ≤ 125) ∧
      ¬(2 ≤ (126 : Byte).toNat ∧ (126 : Byte).toNat ≤ 125) := by decide

theorem witness_RfSetupEffect :
    quiet.phase = .idle ∧ (0x20 : Byte) ∈ [0x00#8, 0x08#8, 0x20#8] ∧ (0x28 : Byte) ∉ [0x00#8, 0x08#8, 0x20#8] ∧
      (0x06 : Byte) ∈ [0x00#8, 0x02#8, 0x04#8, 0x06#8] ∧ (0x07 : Byte) ∉ [0x00#8, 0x02#8, 0x04#8, 0x06#8] := by decide

theorem witness_CheckStatusIrqEffect : quiet.phase = .idle := by decide

theorem witness_IsPacketEffect : quiet.phase = .idle := by decide

theorem witness_ReadPacketEffect :
    quiet.phase = .idle ∧ (1 ≤ (1 : Byte).toNat ∧ (1 : Byte).toNat ≤ 32) ∧
      (1 ≤ (32 : Byte).toNat ∧ (32 : Byte).toNat ≤ 32) ∧ (0 : Byte).toNat = 0 ∧ 32 < (33 : Byte).toNat := by decide

theorem witness_DoublePipeSharesUpperBytes :
    (2 ≤ (2 : BitVec 5).toNat ∧ (2 : BitVec 5).toNat ≤ 5) ∧ (2 ≤ (5 : BitVec 5).toNat ∧ (5 : BitVec 5).toNat ≤ 5) ∧
      addrA.length = 5 := by decide

/-- Both ways a state is reached: a step, and an instruction. -/
theorem witness_LevelsAndSessionFollowEvents :
    (∃ t, step (waitingAt 0 [.short]) = .next t) ∧ ∃ i t, exec i (rig [full 1]) = .next t :=
  ⟨⟨_, rfl⟩, .flushTx, _, rfl⟩

/-- One state and answer for each clause. -/
theorem witness_ResultWrittenAtCommandEnd :
    (∃ t, ¬isHostCommand .flushTxFrame ∧ exec .flushTxFrame (inside [full 1]) = .next t ∧ t.inSession = true) ∧
    (∃ t, quiet.mode ≠ .rx ∧ exec (.sendPacket [0x55]) (rig [full 2]) = .next t ∧ t.phase ≠ .idle) ∧
    (∃ t, (waitingAt 0 [full 2]).phase ≠ .idle ∧ step (waitingAt 0 [full 2]) = .next t ∧ t.phase ≠ .idle) :=
  ⟨⟨_, (nofun : ¬Space.framer = .host), rfl, rfl⟩, ⟨_, nofun, rfl, nofun⟩, ⟨_, nofun, rfl, nofun⟩⟩

/-- A turn that polls, and one at the limit. -/
theorem witness_WaitTurnFrame :
    (∃ t, (waitingAt 3 [full 2]).phase = .waiting 3 ∧ step (waitingAt 3 [full 2]) = .next t) ∧
    ∃ t, ({ limited with phase := .waiting 2 } : State).phase = .waiting 2 ∧
      ({ limited with phase := .waiting 2 } : State).params.pollLimit = some 2 ∧
      step { limited with phase := .waiting 2 } = .next t :=
  ⟨⟨_, rfl, rfl⟩, ⟨_, rfl, rfl, rfl⟩⟩

end Sys2Proof.Tests
end

/-! SUPPORT. What the actions and instructions keep: a property of the state that every named update keeps is kept by
every action, every instruction and every turn of SEND_PACKET's wait. -/

namespace Sys2Proof.Machine

/-! ### Properties that the updates keep -/

/-- A property that a frame and the two ends of a session keep: all that a framer primitive or a session of them does
(R120, R140). -/
structure KeptByBus (P : State → Prop) : Prop where
  framed {s : State} (tx : List Byte) : P s → P (s.framed tx)
  openSession {s : State} : P s → P s.openSession
  closeSession {s : State} : P s → P s.closeSession

/-- A property that every named update of the state keeps. -/
structure KeptByUpdates (P : State → Prop) : Prop extends KeptByBus P where
  driveCE {s : State} (l : Level) : P s → P (s.driveCE l)
  driveCSN {s : State} (l : Level) : P s → P (s.driveCSN l)
  waited {s : State} (bound : Nat) : P s → P (s.waited bound)
  withMode {s : State} (m : Mode) : P s → P (s.withMode m)
  withCfg {s : State} (c : Cfg) : P s → P (s.withCfg c)
  committed {s : State} (c : CfgRecord) : P s → P (s.committed c)
  cacheP0 {s : State} (a : List Byte) : P s → P (s.cacheP0 a)
  withStatus {s : State} (v : Byte) : P s → P (s.withStatus v)
  withPhase {s : State} (p : Phase) : P s → P (s.withPhase p)
  withReply {s : State} (r : Reply) : P s → P (s.withReply r)
  ended {s : State} (code : ResultCode) (r : Reply) : P s → P (s.ended code r)

/-- The exit actions are a release, where a session is open, and an end (R224). -/
theorem KeptByUpdates.raised {P : State → Prop} (h : KeptByUpdates P) {s : State} (e : ResultCode) (hs : P s) :
    P (s.raised e) := by
  cases hopen : s.inSession with
  | true =>
    rw [State.raised_open hopen]
    exact h.ended _ _ (h.closeSession hs)
  | false =>
    rw [State.raised_closed hopen]
    exact h.ended _ _ hs

/-- What an action keeps also holds of the state computed from its end, where both ways of ending keep it. -/
theorem keeps_end {P : State → Prop} {α : Type} {x : Act α} {s : State} (hx : Act.Keeps P x) (hs : P s)
    {f : EStateM.Result ResultCode State α → State} (hok : ∀ a t, P t → P (f (.ok a t)))
    (herror : ∀ e t, P t → P (f (.error e t))) : P (f (x s)) := by
  have hend := hx s hs
  cases hr : x s with
  | ok a t => rw [hr] at hend; exact hok a t hend
  | error e t => rw [hr] at hend; exact herror e t hend

/-! ### The framer primitives and the poll -/

section Bus

variable {P : State → Prop} (h : KeptByBus P)
include h

theorem keeps_frame (tx : List Byte) : Act.Keeps P (frame tx) := by
  intro s hs
  rw [frame_run]
  cases (s.env.answer tx).1 with
  | ok rx => exact h.framed tx hs
  | short => exact h.framed tx hs

theorem keeps_writeReg (addr : Byte) (v : List Byte) : Act.Keeps P (writeReg addr v) :=
  keeps_bind (keeps_frame h _) fun _ => keeps_pure ()

theorem keeps_readRegs (addr : Byte) (n : Nat) : Act.Keeps P (readRegs addr n) :=
  keeps_bind (keeps_look _) fun _ => keeps_bind (keeps_frame h _) fun _ => keeps_pure _

theorem keeps_readReg (addr : Byte) : Act.Keeps P (readReg addr) :=
  keeps_bind (keeps_look _) fun _ => keeps_bind (keeps_frame h _) fun _ => keeps_pure _

theorem keeps_writeTxPayload (p : List Byte) : Act.Keeps P (writeTxPayload p) :=
  keeps_bind (keeps_frame h _) fun _ => keeps_pure ()

theorem keeps_readRxPayload (n : Nat) : Act.Keeps P (readRxPayload n) :=
  keeps_bind (keeps_look _) fun _ => keeps_bind (keeps_frame h _) fun _ => keeps_pure _

theorem keeps_flushTxFifo : Act.Keeps P flushTxFifo :=
  keeps_bind (keeps_frame h _) fun _ => keeps_pure ()

theorem keeps_flushRxFifo : Act.Keeps P flushRxFifo :=
  keeps_bind (keeps_frame h _) fun _ => keeps_pure ()

theorem keeps_inOneSession {α : Type} {body : Act α} (hb : Act.Keeps P body) : Act.Keeps P (inOneSession body) :=
  keeps_bind (keeps_act fun _ => h.openSession) fun _ => keeps_bind hb fun _ =>
    keeps_bind (keeps_act fun _ => h.closeSession) fun _ => keeps_pure _

theorem keeps_clearLatch (s mask : Byte) : Act.Keeps P (clearLatch s mask) :=
  keeps_onlyIf (keeps_writeReg h _ _)

theorem keeps_poll (hstatus : ∀ s v, P s → P (s.withStatus v)) : Act.Keeps P poll :=
  keeps_bind (keeps_readReg h _) fun v =>
    keeps_bind (keeps_act fun s => hstatus s v) fun _ =>
    keeps_bind (keeps_clearLatch h v _) fun _ =>
    keeps_bind (keeps_clearLatch h v _) fun _ =>
    keeps_bind (keeps_clearLatch h v _) fun _ => keeps_pure _

theorem keeps_payloadSizeSequence (pipe size : Byte) : Act.Keeps P (payloadSizeSequence pipe size) := by
  refine keeps_inOneSession h ?_
  have hw : ∀ p, Act.Keeps P (writeReg (rxPwReg p) [size]) := fun p => keeps_writeReg h _ _
  split
  · exact keeps_bind (hw 0) fun _ => keeps_bind (hw 1) fun _ => keeps_bind (hw 2) fun _ =>
      keeps_bind (hw 3) fun _ => keeps_bind (hw 4) fun _ => hw 5
  · exact hw pipe

theorem keeps_rxDestinationSequence (hcache : ∀ s a, P s → P (s.cacheP0 a)) (pipe : Byte) (a : List Byte) :
    Act.Keeps P (rxDestinationSequence pipe a) :=
  keeps_inOneSession h <|
    keeps_bind (keeps_writeReg h _ _) fun _ =>
    keeps_bind (keeps_onlyIf (keeps_act fun s => hcache s a)) fun _ =>
    keeps_bind (keeps_readReg h _) fun _ => keeps_onlyIf (keeps_writeReg h _ _)

end Bus

/-! ### The sequences of the mode sequencer -/

section Sequencer

variable {P : State → Prop} (h : KeptByUpdates P)
include h

theorem keeps_initialiseSequence (c : CfgRecord) : Act.Keeps P (initialiseSequence c) := by
  have hbus := h.toKeptByBus
  have hw : ∀ addr v, Act.Keeps P (writeReg addr v) := keeps_writeReg hbus
  have hwait : ∀ b, Act.Keeps P (act (·.waited b)) := fun b => keeps_act fun _ => h.waited b
  have hstart : Act.Keeps P (inOneSession _) := keeps_inOneSession hbus <|
    keeps_bind (hwait Config.tPor) fun _ =>
    keeps_bind (keeps_act fun _ => h.driveCE .low) fun _ =>
    keeps_bind (hwait Config.tCeCsn) fun _ =>
    keeps_bind (keeps_act fun _ => h.driveCSN .high) fun _ =>
    keeps_bind (hw Config.regConfig [0x0E]) fun _ =>
    keeps_bind (hwait Config.tXtal) fun _ =>
    keeps_bind (hw Config.regEnAa [0x3F]) fun _ =>
    keeps_bind (hw Config.regSetupAw [c.aw]) fun _ =>
    keeps_bind (hw Config.regSetupRetr [c.ard ||| c.arc]) fun _ =>
    keeps_bind (hw Config.regRfCh [c.ch]) fun _ =>
    keeps_bind (hw Config.regRfSetup [c.dr ||| c.pwr]) fun _ =>
    keeps_bind (hw Config.regFeature [0x05]) fun _ =>
    keeps_bind (hw Config.regDynpd [dynpdByte c.dyn]) fun _ =>
    keeps_bind (hw Config.regStatus [0x70]) fun _ =>
    keeps_bind (keeps_flushTxFifo hbus) fun _ => keeps_flushRxFifo hbus
  exact keeps_bind hstart fun _ => keeps_bind (keeps_act fun _ => h.withMode .standbyI) fun _ => keeps_pure _

theorem keeps_standbyAction (m : Mode) : Act.Keeps P (standbyAction m) :=
  keeps_onlyIf <| keeps_inOneSession h.toKeptByBus <|
    keeps_bind (keeps_readReg h.toKeptByBus _) fun _ =>
    keeps_bind (keeps_writeReg h.toKeptByBus _ _) fun _ =>
    keeps_bind (keeps_act fun _ => h.driveCE .low) fun _ =>
    keeps_bind (keeps_act fun _ => h.waited _) fun _ => keeps_act fun _ => h.withMode .standbyI

theorem keeps_leaveReceiver (m : Mode) : Act.Keeps P (leaveReceiver m) :=
  keeps_onlyIf <| keeps_bind (keeps_standbyAction h m) fun _ => keeps_act fun _ => h.ended .ok .none

theorem keeps_sendSequence (m : Mode) (payload : List Byte) : Act.Keeps P (sendSequence m payload) :=
  keeps_bind (keeps_leaveReceiver h m) fun _ =>
    keeps_bind (keeps_act fun _ => h.openSession) fun _ =>
    keeps_bind (keeps_writeTxPayload h.toKeptByBus payload) fun _ =>
    keeps_bind (keeps_act fun _ hs => h.withMode .tx (h.driveCE .high hs)) fun _ =>
    keeps_bind (keeps_act fun _ => h.waited _) fun _ =>
    keeps_act fun _ hs => h.withMode .standbyI (h.driveCE .low hs)

theorem keeps_giveUp (code : ResultCode) : Act.Keeps P (giveUp code) :=
  keeps_bind (keeps_flushTxFifo h.toKeptByBus) fun _ =>
    keeps_bind (keeps_act fun _ => h.closeSession) fun _ => keeps_pure _

theorem keeps_waitTurn (i : Nat) : Act.Keeps P (waitTurn i) := by
  refine keeps_bind (keeps_look _) fun p => ?_
  split
  · exact keeps_giveUp h .timeout
  · refine keeps_bind (keeps_poll h.toKeptByBus fun _ v => h.withStatus v) fun ⟨code, s⟩ => ?_
    dsimp only
    split
    · exact keeps_bind (keeps_act fun _ => h.closeSession) fun _ => keeps_pure _
    · exact keeps_giveUp h .retryExhausted
    · exact keeps_pure _

end Sequencer

/-! ### Outcomes -/

/-- The next state, where the outcome is one, has the property. -/
def NextIn (P : State → Prop) (o : Host.Outcome State Fault Refusal) : Prop :=
  ∀ t, o = .next t → P t

section Outcomes

variable {P : State → Prop} {s : State}

theorem nextIn_next (hs : P s) : NextIn P (.next s) := by
  rintro t ⟨⟩
  exact hs

theorem nextIn_refused (r : Refusal) : NextIn P (.refused r) := by
  rintro t ⟨⟩

theorem nextIn_ite {c : Prop} [Decidable c] {a b : Host.Outcome State Fault Refusal} (ha : NextIn P a)
    (hb : NextIn P b) : NextIn P (if c then a else b) := by
  split
  · exact ha
  · exact hb

theorem nextIn_hostCommand {o : Host.Outcome State Fault Refusal} (ho : NextIn P o) : NextIn P (hostCommand s o) :=
  nextIn_ite ho (nextIn_refused _)

variable (h : KeptByUpdates P)
include h

theorem nextIn_runCommand {body : Act Reply} (hb : Act.Keeps P body) (hs : P s) : NextIn P (runCommand s body) :=
  nextIn_next (keeps_end hb hs (fun r _ => h.ended .ok r) fun e _ => h.raised e)

/-- A command that is one session and then its reply. -/
theorem nextIn_session {α : Type} {body : Act α} (reply : α → Reply) (hb : Act.Keeps P body) (hs : P s) :
    NextIn P (runCommand s (inOneSession body >>= fun v => pure (reply v))) :=
  nextIn_runCommand h (keeps_bind (keeps_inOneSession h.toKeptByBus hb) fun _ => keeps_pure _) hs

theorem nextIn_parameterError (hs : P s) : NextIn P (parameterError s) :=
  nextIn_next (h.ended _ _ hs)

/-- A frame instruction is its primitive and then the reply. -/
theorem nextIn_framePrimitive {α : Type} {fits : Bool} {body : Act α} (reply : α → Reply) (hb : Act.Keeps P body)
    (hs : P s) : NextIn P (framePrimitive s fits (body >>= fun v => pure (reply v))) := by
  have hdone : Act.Keeps P (body >>= fun v => pure (reply v)) := keeps_bind hb fun _ => keeps_pure _
  exact nextIn_ite (nextIn_refused _) <| nextIn_ite (nextIn_refused _) <|
    nextIn_next (keeps_end hdone hs (fun r _ => h.withReply r) fun e _ => h.raised e)

theorem nextIn_execSendPacket (payload : List Byte) (hs : P s) : NextIn P (execSendPacket payload s) := by
  have hsent : P (State.startWait (sendSequence s.mode payload s)) :=
    keeps_end (keeps_sendSequence h s.mode payload) hs (fun _ _ => h.withPhase (.waiting 0)) fun e _ => h.raised e
  exact nextIn_hostCommand (nextIn_ite (nextIn_next hsent) (nextIn_refused _))

theorem nextIn_execReceiverMode (hs : P s) : NextIn P (execReceiverMode s) :=
  nextIn_hostCommand <| nextIn_session h (fun _ => .none) (hs := hs) <|
    keeps_bind (keeps_readReg h.toKeptByBus _) fun _ =>
    keeps_bind (keeps_onlyIf (keeps_writeReg h.toKeptByBus _ _)) fun _ =>
    keeps_bind (keeps_look _) fun _ =>
    keeps_bind (keeps_onlyIf (keeps_writeReg h.toKeptByBus _ _)) fun _ =>
    keeps_bind (keeps_act fun _ => h.driveCE .high) fun _ =>
    keeps_bind (keeps_act fun _ => h.waited _) fun _ => keeps_act fun _ => h.withMode .rx

/-- One turn of SEND_PACKET's wait keeps what every update keeps (R205). -/
theorem nextIn_stepWait (i : Nat) (hs : P s) : NextIn P (stepWait i s) := by
  refine nextIn_next (keeps_end (keeps_waitTurn h i) hs (fun turn t ht => ?_) fun e _ => h.raised e)
  cases turn with
  | finished code => exact h.ended code .none ht
  | again => exact h.withPhase (.waiting (i + 1)) ht

/-- Every instruction keeps what every update keeps. -/
theorem nextIn_exec (i : Instr) (hs : P s) : NextIn P (exec i s) := by
  have hbus := h.toKeptByBus
  have hwrite : ∀ addr v, Act.Keeps P (writeReg addr v) := keeps_writeReg hbus
  have hpoll : Act.Keeps P (inOneSession poll) := keeps_inOneSession hbus (keeps_poll hbus fun _ v => h.withStatus v)
  have hparam : NextIn P (parameterError s) := nextIn_parameterError h hs
  cases i with
  | wRegister addr data => exact nextIn_framePrimitive h (fun _ => .none) (hwrite _ _) hs
  | rRegister addr n => exact nextIn_framePrimitive h .bytes (keeps_readRegs hbus _ _) hs
  | rRxPayload n => exact nextIn_framePrimitive h .bytes (keeps_readRxPayload hbus _) hs
  | wTxPayload payload => exact nextIn_framePrimitive h (fun _ => .none) (keeps_writeTxPayload hbus _) hs
  | flushTxFrame => exact nextIn_framePrimitive h (fun _ => .none) (keeps_flushTxFifo hbus) hs
  | flushRxFrame => exact nextIn_framePrimitive h (fun _ => .none) (keeps_flushRxFifo hbus) hs
  | initialise cfg =>
    exact nextIn_hostCommand
      (nextIn_ite (nextIn_runCommand h (keeps_initialiseSequence h _) (h.committed _ hs)) hparam)
  | standbyMode =>
    exact nextIn_hostCommand
      (nextIn_runCommand h (keeps_bind (keeps_standbyAction h _) fun _ => keeps_pure _) hs)
  | receiverMode => exact nextIn_execReceiverMode h hs
  | sendPacket payload => exact nextIn_execSendPacket h payload hs
  | readPacket size =>
    exact nextIn_hostCommand
      (nextIn_ite (nextIn_session h .bytes (keeps_readRxPayload hbus _) hs) (nextIn_refused _))
  | isPacket | checkStatusIrq =>
    exact nextIn_hostCommand (nextIn_runCommand h (keeps_bind hpoll fun ⟨_, _⟩ => keeps_pure _) hs)
  | rxDestination pipe addr =>
    have hseq := keeps_rxDestinationSequence hbus (fun _ a => h.cacheP0 a) pipe (addr.take (addressBytes s.awb pipe))
    exact nextIn_hostCommand <| nextIn_ite hparam <| nextIn_ite (nextIn_refused _) <|
      nextIn_ite (nextIn_refused _) (nextIn_runCommand h (keeps_bind hseq fun _ => keeps_pure _) hs)
  | txDestination addr =>
    exact nextIn_hostCommand (nextIn_ite (nextIn_refused _)
      (nextIn_session h (fun _ => .none) (keeps_bind (hwrite _ _) fun _ => hwrite _ _) hs))
  | payloadSize pipe size =>
    exact nextIn_hostCommand (nextIn_ite
      (nextIn_runCommand h (keeps_bind (keeps_payloadSizeSequence hbus _ _) fun _ => keeps_pure _) hs) hparam)
  | dynPayloadsEnable =>
    exact nextIn_hostCommand
      (nextIn_session h (fun _ => .none) (keeps_bind (hwrite _ _) fun _ => hwrite _ _) (h.withCfg _ hs))
  | dynPayloadsDisable =>
    exact nextIn_hostCommand (nextIn_session h (fun _ => .none) (hwrite _ _) (h.withCfg _ hs))
  | autoRetransmission | rfChannel | rfDataRate | rfPower =>
    exact nextIn_hostCommand
      (nextIn_ite (nextIn_session h (fun _ => .none) (hwrite _ _) (h.withCfg _ hs)) hparam)
  | writeRegister addr data =>
    exact nextIn_hostCommand (nextIn_ite (nextIn_session h (fun _ => .none) (hwrite _ _) hs) (nextIn_refused _))
  | readRegisterByte addr => exact nextIn_hostCommand (nextIn_session h .byte (keeps_readReg hbus _) hs)
  | readRegisterBytes addr n =>
    exact nextIn_hostCommand (nextIn_ite (nextIn_session h .bytes (keeps_readRegs hbus _ _) hs) (nextIn_refused _))
  | flushTx => exact nextIn_hostCommand (nextIn_session h (fun _ => .none) (keeps_flushTxFifo hbus) hs)
  | flushRx => exact nextIn_hostCommand (nextIn_session h (fun _ => .none) (keeps_flushRxFifo hbus) hs)

end Outcomes

end Sys2Proof.Machine

/-! SUPPORT. What one step can do, and what every step leaves: the trace so far, the parameters and the host's coming
records. -/

namespace Sys2Proof.Machine

open Sys2Proof.Safety

/-! ### The step -/

theorem step_waiting {s : State} {i : Nat} (h : s.phase = .waiting i) : step s = stepWait i s := by
  simp only [step, h]

/-- All a step that answers a next state can be: a turn of the wait, the wait for the host, or the instruction of the
next record (R105, R205, R241). -/
theorem step_next_cases {s t : State} (h : step s = .next t) :
    (∃ i, s.phase = .waiting i ∧ stepWait i s = .next t) ∨
    (s.phase = .idle ∧ s.port = [] ∧ t = s) ∨
    (∃ r later i, s.phase = .idle ∧ s.port = r :: later ∧ decode r = .ok i ∧
      exec i { s with port := later } = .next t) := by
  cases hp : s.phase with
  | waiting i =>
    rw [step_waiting hp] at h
    exact .inl ⟨i, rfl, h⟩
  | idle =>
    cases hport : s.port with
    | nil =>
      simp only [step, hp, State.fetch, hport] at h
      cases h
      exact .inr (.inl ⟨rfl, rfl, rfl⟩)
    | cons r later =>
      simp only [step, hp, State.fetch, hport] at h
      cases hd : decode r with
      | ok i =>
        simp only [hd] at h
        exact .inr (.inr ⟨r, later, i, rfl, rfl, hd, h⟩)
      | error reason =>
        simp only [hd] at h
        cases h

/-! ### Continuation -/

/-- `t` continues `s`: nothing emitted is taken back (R10), no parameter changes (R39), and the host's coming records
are the same (R12). -/
structure State.Continues (s t : State) : Prop where
  trace  : s.trace <+: t.trace
  params : t.params = s.params
  port   : t.port = s.port

theorem State.Continues.refl (s : State) : s.Continues s := ⟨List.prefix_rfl, rfl, rfl⟩

/-- After any events more, the same parameters and records. -/
theorem State.Continues.emits {s t u : State} (h : s.Continues t) (events : List Event)
    (htrace : u.trace = t.trace ++ events) (hparams : u.params = t.params) (hport : u.port = t.port) :
    s.Continues u where
  trace := htrace ▸ h.trace.trans (List.prefix_append _ _)
  params := hparams.trans h.params
  port := hport.trans h.port

theorem keptByUpdates_continues (s : State) : KeptByUpdates s.Continues where
  framed _ h := h.emits _ rfl rfl rfl
  openSession h := h.emits _ rfl rfl rfl
  closeSession h := h.emits _ rfl rfl rfl
  driveCE _ h := h.emits _ rfl rfl rfl
  driveCSN _ h := h.emits _ rfl rfl rfl
  waited _ h := h.emits _ rfl rfl rfl
  withMode _ h := ⟨h.trace, h.params, h.port⟩
  withCfg _ h := ⟨h.trace, h.params, h.port⟩
  committed _ h := ⟨h.trace, h.params, h.port⟩
  cacheP0 _ h := ⟨h.trace, h.params, h.port⟩
  withStatus _ h := ⟨h.trace, h.params, h.port⟩
  withPhase _ h := ⟨h.trace, h.params, h.port⟩
  withReply _ h := ⟨h.trace, h.params, h.port⟩
  ended _ _ h := ⟨h.trace, h.params, h.port⟩

theorem exec_continues {i : Instr} {s t : State} (h : exec i s = .next t) : s.Continues t :=
  nextIn_exec (keptByUpdates_continues s) i (.refl s) t h

theorem stepWait_continues {i : Nat} {s t : State} (h : stepWait i s = .next t) : s.Continues t :=
  nextIn_stepWait (keptByUpdates_continues s) i (.refl s) t h

/-! ### Commands do not overlap -/

theorem hostCommand_busy {s : State} (h : s.phase ≠ .idle) (o : Host.Outcome State Fault Refusal) :
    hostCommand s o = .refused .overlappingCommand :=
  if_neg h

/-- Every host command's meaning stands behind the one test that no command runs (R12). -/
theorem exec_of_isHostCommand {i : Instr} (h : isHostCommand i) (s : State) : ∃ o, exec i s = hostCommand s o := by
  cases i with
  | wRegister | rRegister | rRxPayload | wTxPayload | flushTxFrame | flushRxFrame =>
    exact nomatch (h : Space.framer = .host)
  | _ => exact ⟨_, rfl⟩

end Sys2Proof.Machine

/-! SUPPORT. The obligations of 00_scope.md. -/

namespace Sys2Proof.Machine

open Sys2Proof.Safety

/-- Settles O7: a host command's meaning stands behind the test that no command runs, and a turn of the wait keeps the
port, as each of its updates does. -/
theorem commandsNeverOverlap : Obligations.CommandsNeverOverlap := by
  unfold Obligations.CommandsNeverOverlap
  constructor
  · intro i s hi hbusy
    obtain ⟨o, ho⟩ := exec_of_isHostCommand hi s
    rw [ho, hostCommand_busy hbusy]
  · intro s t hbusy hstep
    obtain ⟨i, -, hturn⟩ | ⟨hidle, -, -⟩ | ⟨_, _, _, hidle, -, -, -⟩ := step_next_cases hstep
    · exact (stepWait_continues hturn).port
    · exact absurd hidle hbusy
    · exact absurd hidle hbusy

/-- Settles O12: the turns of the wait and the instructions continue the state they start from, and taking a record off
the port touches neither trace nor parameters. -/
theorem stepExtendsTrace : Obligations.StepExtendsTrace := by
  unfold Obligations.StepExtendsTrace
  intro s t hstep
  obtain ⟨i, -, hturn⟩ | ⟨-, -, rfl⟩ | ⟨_, later, i, -, -, -, hexec⟩ := step_next_cases hstep
  · obtain ⟨⟨events, htrace⟩, hparams, -⟩ := stepWait_continues hturn
    exact ⟨⟨events, htrace.symm⟩, hparams⟩
  · exact ⟨⟨[], (List.append_nil _).symm⟩, rfl⟩
  · obtain ⟨⟨events, htrace⟩, hparams, -⟩ := exec_continues hexec
    exact ⟨⟨events, htrace.symm⟩, hparams⟩

end Sys2Proof.Machine

/-! SUPPORT. What an instruction can do, said once: the updates of the state its meaning is made of, what an action
built from them does, and the few forms the next state of an instruction has. `KeptByUpdates` asks a property of every
update there is; here an instruction answers only for its own, and for the values it writes. -/

namespace Sys2Proof.Machine

open Sys2Proof.Safety

/-! ### The updates of an instruction -/

/-- The CE pulse of SEND_PACKET, the only part of a command that holds TX (R23, R157). -/
def State.pulsed (s : State) : State :=
  ((((s.driveCE .high).withMode .tx).waited Config.tCePulse).driveCE .low).withMode .standbyI

/-- The updates that the meaning of an instruction, run in the state `s₀`, is made of, with what R20, R144 and R170 say
of the values written. -/
inductive Update (s₀ : State) : Instr → State → State → Prop
  | framed {i a} (tx : List Byte) : Update s₀ i a (a.framed tx)
  | openSession {i a} : Update s₀ i a a.openSession
  | closeSession {i a} : Update s₀ i a a.closeSession
  | ended {i a code} (r : Reply) (hcode : code ≠ .modeError) : Update s₀ i a (a.ended code r)
  | withReply {i a} (r : Reply) : Update s₀ i a (a.withReply r)
  | withStatus {i a} (hi : i = .isPacket ∨ i = .checkStatusIrq) (v : Byte) : Update s₀ i a (a.withStatus v)
  | driveCE {i a} (hi : isModeCommand i) (l : Level) : Update s₀ i a (a.driveCE l)
  | driveCSN {i a} (hi : isModeCommand i) : Update s₀ i a (a.driveCSN .high)
  | waited {i a} (hi : isModeCommand i) (bound : Nat) : Update s₀ i a (a.waited bound)
  | withMode {i a m} (hi : isModeCommand i) (hm : m ≠ .tx) : Update s₀ i a (a.withMode m)
  | pulsed {p a} : Update s₀ (.sendPacket p) a a.pulsed
  | startsWait {p a} : Update s₀ (.sendPacket p) a (a.withPhase (.waiting 0))
  | committed {cfg a} (legal : legalCfg (cfgOf cfg) = true) : Update s₀ (.initialise cfg) a (a.committed (cfgOf cfg))
  | dynEnabled {a} : Update s₀ .dynPayloadsEnable a (a.withCfg { a.cfg with dyn := 1 })
  | dynDisabled {a} : Update s₀ .dynPayloadsDisable a (a.withCfg { a.cfg with dyn := 0 })
  | retransmission {ard arc a} (legal : legalArd ard = true) :
      Update s₀ (.autoRetransmission ard arc) a (a.withCfg { a.cfg with ard := ard, arc := arc.setWidth 4 })
  | channel {ch a} (legal : legalCh ch = true) :
      Update s₀ (.rfChannel ch) a (a.withCfg { a.cfg with ch := ch.setWidth 7 })
  | dataRate {dr a} (legal : legalDr dr = true) : Update s₀ (.rfDataRate dr) a (a.withCfg { a.cfg with dr := dr })
  | power {pwr a} (legal : legalPwr pwr = true) : Update s₀ (.rfPower pwr) a (a.withCfg { a.cfg with pwr := pwr })
  | cacheP0 {addr a} (hlen : s₀.awb.toNat ≤ addr.length) :
      Update s₀ (.rxDestination 0 addr) a (a.cacheP0 (addr.take s₀.awb.toNat))

/-- Any number of the instruction's updates. -/
abbrev Reach (s₀ : State) (i : Instr) : State → State → Prop := Relation.ReflTransGen (Update s₀ i)

/-- Updates inside a session, which stays open. -/
structure Inside (s₀ : State) (i : Instr) (a b : State) : Prop where
  reach : Reach s₀ i a b
  inSession : b.inSession = a.inSession

section Actions

variable {s₀ a b c : State} {i : Instr}

theorem Inside.refl (a : State) : Inside s₀ i a a := ⟨.refl, rfl⟩

theorem Inside.trans (hab : Inside s₀ i a b) (hbc : Inside s₀ i b c) : Inside s₀ i a c where
  reach := hab.reach.trans hbc.reach
  inSession := hbc.inSession.trans hab.inSession

/-- One update that leaves the session as it is. -/
theorem Update.inside (h : Update s₀ i a b) (hsession : b.inSession = a.inSession := by rfl) : Inside s₀ i a b :=
  ⟨.single h, hsession⟩

/-- CSN is driven low only within a frame, which ends with CSN high (R120). -/
theorem Update.csn_high (h : Update s₀ i a b) (ha : a.csn = .high) : b.csn = .high := by
  cases h with
  | framed | driveCSN => rfl
  | _ => exact ha

/-- What every update of an instruction keeps, the instruction keeps. -/
theorem Reach.keeps {P : State → Prop} (h : Reach s₀ i a b) (hkeep : ∀ {c d}, Update s₀ i c d → P c → P d) (ha : P a) :
    P b := by
  induction h with
  | refl => exact ha
  | tail _ hupdate ih => exact hkeep hupdate ih

/-- A field that no update of the instruction writes is as before. -/
theorem Reach.unchanged {γ : Type} (field : State → γ) (h : Reach s₀ i a b)
    (hkeep : ∀ {c d}, Update s₀ i c d → field d = field c) : field b = field a :=
  h.keeps (P := fun c => field c = field a) (fun hupdate hc => (hkeep hupdate).trans hc) rfl

theorem Reach.csn_high (h : Reach s₀ i a b) (ha : a.csn = .high) : b.csn = .high :=
  h.keeps Update.csn_high ha

/-! ### Actions made of updates -/

/-- From a start with CSN high, where `before` asks for it, the action gets to either of its ends by updates inside the
session; what it raises is `BusError`, after a frame, with CSN high; and CSN is high at a good end too, where `after` says
so. -/
def Act.Runs {α : Type} (s₀ : State) (i : Instr) (before after : Bool) (x : Act α) : Prop :=
  ∀ s, (before = true → s.csn = .high) → match x s with
    | .ok _ t => (after = true → t.csn = .high) ∧ Inside s₀ i s t
    | .error e t => e = .busError ∧ t.csn = .high ∧ Inside s₀ i s t

variable {α β : Type} {x : Act α} {f : α → Act β} {p q r : Bool}

theorem runs_pure (v : α) : Act.Runs s₀ i p p (pure v : Act α) := fun s hs => ⟨hs, .refl s⟩

theorem runs_look (g : State → α) : Act.Runs s₀ i p p (look g) := fun s hs => ⟨hs, .refl s⟩

theorem runs_act {g : State → State} (h : ∀ s, Inside s₀ i s (g s)) : Act.Runs s₀ i p p (act g) :=
  fun s hs => ⟨fun hp => (h s).reach.csn_high (hs hp), h s⟩

theorem runs_bind (hx : Act.Runs s₀ i p q x) (hf : ∀ v, Act.Runs s₀ i q r (f v)) : Act.Runs s₀ i p r (x >>= f) := by
  intro s hs
  have hfirst := hx s hs
  rw [bind_run]
  cases hxs : x s with
  | error e t => rw [hxs] at hfirst; exact hfirst
  | ok v t =>
    rw [hxs] at hfirst
    obtain ⟨hcsn, hst⟩ := hfirst
    have hsecond := hf v t hcsn
    dsimp only
    cases hft : f v t with
    | ok w u =>
      rw [hft] at hsecond
      obtain ⟨hu, htu⟩ := hsecond
      exact ⟨hu, hst.trans htu⟩
    | error e u =>
      rw [hft] at hsecond
      obtain ⟨he, hu, htu⟩ := hsecond
      exact ⟨he, hu, hst.trans htu⟩

theorem runs_onlyIf {c : Bool} {y : Act Unit} (h : c = true → Act.Runs s₀ i p p y) :
    Act.Runs s₀ i p p (onlyIf c y) := by
  cases c with
  | true => exact h rfl
  | false => exact runs_pure ()

/-! ### The framer primitives are one frame each -/

/-- The action is one frame: it ends in the state after it, with a value or with `BusError` (R120). -/
def Act.OneFrame {α : Type} (x : Act α) : Prop :=
  ∀ s, ∃ tx, (∃ v, x s = .ok v (s.framed tx)) ∨ x s = .error .busError (s.framed tx)

theorem oneFrame_frame (tx : List Byte) : Act.OneFrame (frame tx) := by
  intro s
  rw [frame_run]
  cases (s.env.answer tx).1 with
  | ok rx => exact ⟨tx, .inl ⟨rx, rfl⟩⟩
  | short => exact ⟨tx, .inr rfl⟩

theorem oneFrame_bind_pure (g : α → β) (h : Act.OneFrame x) : Act.OneFrame (x >>= fun v => pure (g v)) := by
  intro s
  rw [bind_run]
  obtain ⟨tx, ⟨v, hv⟩ | he⟩ := h s
  · exact ⟨tx, .inl ⟨g v, by rw [hv]; rfl⟩⟩
  · exact ⟨tx, .inr (by rw [he])⟩

theorem oneFrame_look {g : State → α} (h : ∀ v, Act.OneFrame (f v)) : Act.OneFrame (look g >>= f) :=
  fun s => h (g s) s

theorem oneFrame_writeReg (addr : Byte) (v : List Byte) : Act.OneFrame (writeReg addr v) :=
  oneFrame_bind_pure _ (oneFrame_frame _)

theorem oneFrame_readReg (addr : Byte) : Act.OneFrame (readReg addr) :=
  oneFrame_look fun _ => oneFrame_bind_pure _ (oneFrame_frame _)

theorem oneFrame_readRegs (addr : Byte) (n : Nat) : Act.OneFrame (readRegs addr n) :=
  oneFrame_look fun _ => oneFrame_bind_pure _ (oneFrame_frame _)

theorem oneFrame_readRxPayload (n : Nat) : Act.OneFrame (readRxPayload n) :=
  oneFrame_look fun _ => oneFrame_bind_pure _ (oneFrame_frame _)

theorem oneFrame_writeTxPayload (payload : List Byte) : Act.OneFrame (writeTxPayload payload) :=
  oneFrame_bind_pure _ (oneFrame_frame _)

theorem oneFrame_flushTxFifo : Act.OneFrame flushTxFifo := oneFrame_bind_pure _ (oneFrame_frame _)

theorem oneFrame_flushRxFifo : Act.OneFrame flushRxFifo := oneFrame_bind_pure _ (oneFrame_frame _)

theorem Act.OneFrame.runs (h : Act.OneFrame x) : Act.Runs s₀ i p true x := by
  intro s _
  obtain ⟨tx, ⟨v, hv⟩ | he⟩ := h s
  · rw [hv]
    exact ⟨fun _ => rfl, (Update.framed tx).inside⟩
  · rw [he]
    exact ⟨rfl, rfl, (Update.framed tx).inside⟩

theorem runs_writeReg (addr : Byte) (v : List Byte) : Act.Runs s₀ i p true (writeReg addr v) :=
  (oneFrame_writeReg addr v).runs

theorem runs_readReg (addr : Byte) : Act.Runs s₀ i p true (readReg addr) := (oneFrame_readReg addr).runs

/-! ### The sessions -/

theorem runs_poll (hi : i = .isPacket ∨ i = .checkStatusIrq) : Act.Runs s₀ i p true poll := by
  have hclear : ∀ v mask, Act.Runs s₀ i true true (clearLatch v mask) := fun v mask =>
    runs_onlyIf fun _ => runs_writeReg _ _
  exact runs_bind (runs_readReg _) fun v =>
    runs_bind (runs_act fun _ => (Update.withStatus hi v).inside) fun _ =>
    runs_bind (hclear v _) fun _ => runs_bind (hclear v _) fun _ => runs_bind (hclear v _) fun _ => runs_pure _

end Actions

/-! ### The next states of an instruction -/

/-- How a host command run from `s` ends: without a session, or after one in which a frame was sent, which is released
(R140 to R142, R220, R224). -/
inductive Ends (s₀ : State) (i : Instr) (s : State) : State → Prop
  | direct {code} (r : Reply) (hcode : code ≠ .modeError) : Ends s₀ i s (s.ended code r)
  | session {u code} (r : Reply) (hcode : code ≠ .modeError) (hu : Inside s₀ i s.openSession u)
      (hcsn : u.csn = .high) : Ends s₀ i s (u.closeSession.ended code r)

section NextStates

variable {α : Type} {s₀ s s' t : State} {i : Instr} {body : Act α}

theorem Ends.reach (h : Ends s₀ i s t) : Reach s₀ i s t := by
  cases h with
  | direct r hcode => exact .single (.ended r hcode)
  | session r hcode hu _ =>
    have hopen : Reach s₀ i s s.openSession := .single .openSession
    exact ((hopen.trans hu.reach).tail .closeSession).tail (.ended r hcode)

/-- A raise from an open session is an end of the command (R224). -/
theorem ends_raised {u : State} (hu : Inside s₀ i s.openSession u) (hcsn : u.csn = .high) :
    Ends s₀ i s (u.raised .busError) := by
  rw [State.raised_open hu.inSession]
  exact .session .none nofun hu hcsn

/-- The action is a session in which a frame is sent, from `s` or from `s` with its cache updated: a good end leaves it
closed, a raise leaves it open (R140 to R142). -/
def Act.Session {α : Type} (s₀ : State) (i : Instr) (x : Act α) : Prop :=
  ∀ s s' : State, Inside s₀ i s.openSession s'.openSession → match x s' with
    | .ok _ t => ∃ u, t = u.closeSession ∧ u.csn = .high ∧ Inside s₀ i s.openSession u
    | .error e u => e = .busError ∧ u.csn = .high ∧ Inside s₀ i s.openSession u

theorem session_inOneSession (hb : Act.Runs s₀ i false true body) : Act.Session s₀ i (inOneSession body) := by
  intro s s' hs'
  have hrun := hb s'.openSession nofun
  rw [inOneSession_run]
  cases hbody : body s'.openSession with
  | ok v u =>
    rw [hbody] at hrun
    exact ⟨u, rfl, hrun.1 rfl, hs'.trans hrun.2⟩
  | error e u =>
    rw [hbody] at hrun
    obtain ⟨he, hcsn, hu⟩ := hrun
    exact ⟨he, hcsn, hs'.trans hu⟩

/-- A command that is one session and then `rest`, which returns data and may still update the state. -/
theorem ends_finish {x : Act α} {rest : α → Act Reply} (hx : Act.Session s₀ i x)
    (hs' : Inside s₀ i s.openSession s'.openSession)
    (hrest : ∀ v u, ∃ r w, rest v u.closeSession = .ok r w.closeSession ∧ Inside s₀ i u w) :
    Ends s₀ i s (State.finish ((x >>= rest) s')) := by
  have hsession := hx s s' hs'
  rw [bind_run]
  cases hxs : x s' with
  | ok v t =>
    rw [hxs] at hsession
    obtain ⟨u, rfl, hcsn, hu⟩ := hsession
    obtain ⟨r, w, hw, huw⟩ := hrest v u
    dsimp only
    rw [hw]
    exact .session r nofun (hu.trans huw) (huw.reach.csn_high hcsn)
  | error e u =>
    rw [hxs] at hsession
    obtain ⟨rfl, hcsn, hu⟩ := hsession
    exact ends_raised hu hcsn

/-- The same where nothing but the reply follows the session, from a state whose cache may be updated first. -/
theorem nextIn_ends_session (reply : α → Reply) (hb : Act.Runs s i false true body)
    (hs' : Inside s i s.openSession s'.openSession := by exact .refl _) :
    NextIn (Ends s i s) (runCommand s' (inOneSession body >>= fun v => pure (reply v))) :=
  nextIn_next (ends_finish (session_inOneSession hb) hs' fun v u => ⟨reply v, u, rfl, .refl u⟩)

theorem nextIn_ends_parameterError : NextIn (Ends s i s) (parameterError s) := nextIn_next (.direct .none nofun)

/-- A choice whose condition says more of the branch taken. -/
theorem nextIn_dite {P : State → Prop} {c : Prop} [Decidable c] {a b : Host.Outcome State Fault Refusal}
    (ha : c → NextIn P a) (hb : ¬c → NextIn P b) : NextIn P (if c then a else b) := by
  split
  · exact ha ‹_›
  · exact hb ‹_›

/-- INITIALISE: commit and session (R145, R146), or an operand outside its domain (R144). -/
theorem nextIn_ends_initialise (cfg : CfgOperand) :
    NextIn (Ends s (.initialise cfg) s) (exec (.initialise cfg) s) := by
  have hmode : isModeCommand (.initialise cfg) := trivial
  have hwait : ∀ {p} b, Act.Runs s (.initialise cfg) p p (act (·.waited b)) := fun b =>
    runs_act fun _ => (Update.waited hmode b).inside
  have hsession : Act.Session s (.initialise cfg) (inOneSession _) := session_inOneSession <|
    runs_bind (hwait Config.tPor) fun _ =>
    runs_bind (runs_act fun _ => (Update.driveCE hmode .low).inside) fun _ =>
    runs_bind (hwait Config.tCeCsn) fun _ =>
    runs_bind (runs_act fun _ => (Update.driveCSN hmode).inside) fun _ =>
    runs_bind (runs_writeReg Config.regConfig [0x0E]) fun _ =>
    runs_bind (hwait Config.tXtal) fun _ =>
    runs_bind (runs_writeReg Config.regEnAa [0x3F]) fun _ =>
    runs_bind (runs_writeReg Config.regSetupAw [(cfgOf cfg).aw]) fun _ =>
    runs_bind (runs_writeReg Config.regSetupRetr [(cfgOf cfg).ard ||| (cfgOf cfg).arc]) fun _ =>
    runs_bind (runs_writeReg Config.regRfCh [(cfgOf cfg).ch]) fun _ =>
    runs_bind (runs_writeReg Config.regRfSetup [(cfgOf cfg).dr ||| (cfgOf cfg).pwr]) fun _ =>
    runs_bind (runs_writeReg Config.regFeature [0x05]) fun _ =>
    runs_bind (runs_writeReg Config.regDynpd [dynpdByte (cfgOf cfg).dyn]) fun _ =>
    runs_bind (runs_writeReg Config.regStatus [0x70]) fun _ =>
    runs_bind oneFrame_flushTxFifo.runs fun _ => oneFrame_flushRxFifo.runs
  exact nextIn_hostCommand <| nextIn_dite
    (fun legal => nextIn_next <| ends_finish hsession (Update.committed legal).inside fun _ u =>
      ⟨.none, u.withMode .standbyI, rfl, (Update.withMode (m := .standbyI) hmode nofun).inside⟩)
    fun _ => nextIn_ends_parameterError

/-- The session of STANDBY_MODE from RX (R148), which SEND_PACKET runs as well (R155). -/
theorem session_standbySequence (hmode : isModeCommand i) : Act.Session s₀ i standbySequence :=
  session_inOneSession <|
    runs_bind (runs_readReg _) fun _ =>
    runs_bind (runs_writeReg _ _) fun _ =>
    runs_bind (runs_act fun _ => (Update.driveCE hmode .low).inside) fun _ =>
    runs_bind (runs_act fun _ => (Update.waited hmode _).inside) fun _ =>
    runs_act fun _ => (Update.withMode (m := .standbyI) hmode nofun).inside

theorem nextIn_ends_standbyMode : NextIn (Ends s .standbyMode s) (exec .standbyMode s) := by
  refine nextIn_hostCommand (nextIn_next ?_)
  unfold standbyAction
  cases s.mode == .rx with
  | true => exact ends_finish (session_standbySequence trivial) (.refl _) fun _ u => ⟨.none, u, rfl, .refl u⟩
  | false => exact .direct .none nofun

theorem nextIn_ends_receiverMode : NextIn (Ends s .receiverMode s) (exec .receiverMode s) := by
  have hmode : isModeCommand .receiverMode := trivial
  exact nextIn_hostCommand <| nextIn_ends_session (fun _ => .none) <|
    runs_bind (runs_readReg _) fun _ =>
    runs_bind (runs_onlyIf fun _ => runs_writeReg _ _) fun _ =>
    runs_bind (runs_look _) fun _ =>
    runs_bind (runs_onlyIf fun _ => runs_writeReg _ _) fun _ =>
    runs_bind (runs_act fun _ => (Update.driveCE hmode .high).inside) fun _ =>
    runs_bind (runs_act fun _ => (Update.waited hmode _).inside) fun _ =>
    runs_act fun _ => (Update.withMode (m := .rx) hmode nofun).inside

/-- RX_DESTINATION: R170's checks, the session of R171 to R173. -/
theorem nextIn_ends_rxDestination (pipe : Byte) (addr : List Byte) :
    NextIn (Ends s (.rxDestination pipe addr) s) (exec (.rxDestination pipe addr) s) := by
  refine nextIn_hostCommand <| nextIn_ite nextIn_ends_parameterError <| nextIn_ite (nextIn_refused _) <|
    nextIn_dite (fun _ => nextIn_refused _) fun hlen => ?_
  have hcache : pipe = 0 → ∀ a, Inside s (.rxDestination pipe addr) a
      (a.cacheP0 (addr.take (addressBytes s.awb pipe))) := by
    rintro rfl a
    exact (Update.cacheP0 (not_lt.mp hlen)).inside
  exact nextIn_ends_session (fun _ => .none) <|
    runs_bind (runs_writeReg _ _) fun _ =>
    runs_bind (runs_onlyIf fun hpipe => runs_act (hcache (eq_of_beq hpipe))) fun _ =>
    runs_bind (runs_readReg _) fun _ => runs_onlyIf fun _ => runs_writeReg _ _

theorem nextIn_ends_payloadSize (pipe size : Byte) :
    NextIn (Ends s (.payloadSize pipe size) s) (exec (.payloadSize pipe size) s) := by
  have hw : ∀ {p} n, Act.Runs s (.payloadSize pipe size) p true (writeReg (rxPwReg n) [size]) := fun n =>
    runs_writeReg _ _
  refine nextIn_hostCommand <| nextIn_ite (nextIn_ends_session (fun _ => .none) ?_) nextIn_ends_parameterError
  split
  · exact runs_bind (hw 0) fun _ => runs_bind (hw 1) fun _ => runs_bind (hw 2) fun _ =>
      runs_bind (hw 3) fun _ => runs_bind (hw 4) fun _ => hw 5
  · exact hw pipe

/-- Every host command but SEND_PACKET is run to its end by one instruction (R12). -/
theorem nextIn_ends (hhost : isHostCommand i) (hsend : ∀ p, i ≠ .sendPacket p) : NextIn (Ends s i s) (exec i s) := by
  cases i with
  | wRegister | rRegister | rRxPayload | wTxPayload | flushTxFrame | flushRxFrame =>
    exact nomatch (hhost : Space.framer = .host)
  | sendPacket p => exact absurd rfl (hsend p)
  | initialise cfg => exact nextIn_ends_initialise cfg
  | standbyMode => exact nextIn_ends_standbyMode
  | receiverMode => exact nextIn_ends_receiverMode
  | readPacket size =>
    exact nextIn_hostCommand <|
      nextIn_ite (nextIn_ends_session .bytes (oneFrame_readRxPayload _).runs) (nextIn_refused _)
  | isPacket =>
    have hpoll := session_inOneSession (s₀ := s) (runs_poll (.inl rfl))
    exact nextIn_hostCommand <| nextIn_next <|
      ends_finish hpoll (.refl _) fun ⟨_, v⟩ u => ⟨packetReply v, u, rfl, .refl u⟩
  | checkStatusIrq =>
    have hpoll := session_inOneSession (s₀ := s) (runs_poll (.inr rfl))
    exact nextIn_hostCommand <| nextIn_next <|
      ends_finish hpoll (.refl _) fun ⟨code, v⟩ u => ⟨.status code v, u, rfl, .refl u⟩
  | rxDestination pipe addr => exact nextIn_ends_rxDestination pipe addr
  | txDestination addr =>
    exact nextIn_hostCommand <| nextIn_ite (nextIn_refused _) <|
      nextIn_ends_session (fun _ => .none) (runs_bind (runs_writeReg _ _) fun _ => runs_writeReg _ _)
  | payloadSize pipe size => exact nextIn_ends_payloadSize pipe size
  | dynPayloadsEnable =>
    exact nextIn_hostCommand <| nextIn_ends_session (fun _ => .none)
      (runs_bind (runs_writeReg _ _) fun _ => runs_writeReg _ _) Update.dynEnabled.inside
  | dynPayloadsDisable =>
    exact nextIn_hostCommand <| nextIn_ends_session (fun _ => .none) (runs_writeReg _ _) Update.dynDisabled.inside
  | autoRetransmission ard arc =>
    exact nextIn_hostCommand <| nextIn_dite (fun legal => nextIn_ends_session (fun _ => .none) (runs_writeReg _ _)
      (Update.retransmission (Bool.and_elim_left legal)).inside) fun _ => nextIn_ends_parameterError
  | rfChannel ch =>
    exact nextIn_hostCommand <| nextIn_dite (fun legal => nextIn_ends_session (fun _ => .none) (runs_writeReg _ _)
      (Update.channel legal).inside) fun _ => nextIn_ends_parameterError
  | rfDataRate dr =>
    exact nextIn_hostCommand <| nextIn_dite (fun legal => nextIn_ends_session (fun _ => .none) (runs_writeReg _ _)
      (Update.dataRate legal).inside) fun _ => nextIn_ends_parameterError
  | rfPower pwr =>
    exact nextIn_hostCommand <| nextIn_dite (fun legal => nextIn_ends_session (fun _ => .none) (runs_writeReg _ _)
      (Update.power legal).inside) fun _ => nextIn_ends_parameterError
  | writeRegister addr data =>
    exact nextIn_hostCommand <|
      nextIn_ite (nextIn_ends_session (fun _ => .none) (runs_writeReg _ _)) (nextIn_refused _)
  | readRegisterByte addr => exact nextIn_hostCommand (nextIn_ends_session .byte (runs_readReg _))
  | readRegisterBytes addr n =>
    exact nextIn_hostCommand <|
      nextIn_ite (nextIn_ends_session .bytes (oneFrame_readRegs _ _).runs) (nextIn_refused _)
  | flushTx => exact nextIn_hostCommand (nextIn_ends_session (fun _ => .none) oneFrame_flushTxFifo.runs)
  | flushRx => exact nextIn_hostCommand (nextIn_ends_session (fun _ => .none) oneFrame_flushRxFifo.runs)

/-! ### SEND_PACKET -/

/-- SEND_PACKET behind its pre-step: the session's start, the payload frame and the pulse (R156, R157). -/
theorem sendSequence_eq (m : Mode) (payload : List Byte) :
    sendSequence m payload =
      (leaveReceiver m >>= fun _ => act (·.openSession) >>= fun _ => writeTxPayload payload >>= fun _ =>
        act State.pulsed) := rfl

/-- The pre-step of SEND_PACKET: nothing outside RX; from RX the whole of STANDBY_MODE, with its result (R155). -/
theorem leaveReceiver_cases (payload : List Byte) (s : State) :
    match leaveReceiver s.mode s with
      | .ok _ s' => s.mode ≠ .rx ∧ s' = s ∨ s.mode = .rx ∧ Ends s (.sendPacket payload) s s'
      | .error e u => Ends s (.sendPacket payload) s (u.raised e) := by
  by_cases hrx : s.mode = .rx
  · have hmode : isModeCommand (.sendPacket payload) := trivial
    have hsession := session_standbySequence (s₀ := s) hmode s s (.refl _)
    have hrun : leaveReceiver s.mode s = (standbySequence >>= fun _ => act (·.ended .ok .none)) s := by
      rw [hrx]
      rfl
    rw [hrun, bind_run]
    cases hx : standbySequence s with
    | ok v t =>
      rw [hx] at hsession
      obtain ⟨u, rfl, hcsn, hu⟩ := hsession
      exact .inr ⟨hrx, .session .none nofun hu hcsn⟩
    | error e u =>
      rw [hx] at hsession
      obtain ⟨rfl, hcsn, hu⟩ := hsession
      exact ends_raised hu hcsn
  · have hrun : leaveReceiver s.mode s = .ok () s := by
      rw [leaveReceiver, beq_eq_false_iff_ne.mpr hrx]
      rfl
    rw [hrun]
    exact .inl ⟨hrx, rfl⟩

/-- All SEND_PACKET can do in its own step: its pre-step fails; or from the state the pre-step leaves, the payload frame
fails or the wait starts with the session open (R154 to R158). -/
theorem execSendPacket_cases {payload : List Byte} (h : exec (.sendPacket payload) s = .next t) :
    Ends s (.sendPacket payload) s t ∨
    ∃ s', (s.mode ≠ .rx ∧ s' = s ∨ s.mode = .rx ∧ Ends s (.sendPacket payload) s s') ∧
      (Ends s (.sendPacket payload) s' t ∨ ∃ tx, t = (s'.openSession.framed tx).pulsed.withPhase (.waiting 0)) := by
  obtain ⟨-, hnext⟩ := hostCommand_next h
  split at hnext
  case isFalse => cases hnext
  case isTrue =>
    cases hnext
    have hpre := leaveReceiver_cases payload s
    rw [sendSequence_eq, bind_run]
    cases hleave : leaveReceiver s.mode s with
    | error e u =>
      rw [hleave] at hpre
      exact .inl hpre
    | ok v s' =>
      rw [hleave] at hpre
      refine .inr ⟨s', hpre, ?_⟩
      simp only [bind_run, act_run]
      obtain ⟨tx, ⟨w, hw⟩ | he⟩ := oneFrame_writeTxPayload payload s'.openSession
      · rw [hw]
        exact .inr ⟨tx, rfl⟩
      · rw [he]
        exact .inl (ends_raised (Update.framed tx).inside rfl)

/-! ### Frames as instructions -/

/-- A frame instruction is one frame in an open session, and its data or the exit actions (R120, R224). -/
theorem framePrimitive_cases {x : Act α} {fits : Bool} (hx : Act.OneFrame x) (reply : α → Reply)
    (h : framePrimitive s fits (x >>= fun v => pure (reply v)) = .next t) :
    s.inSession = true ∧
      ∃ tx, (∃ r, t = (s.framed tx).withReply r) ∨ t = (s.framed tx).closeSession.ended .busError .none := by
  obtain ⟨hopen, -, rfl⟩ := framePrimitive_next h
  obtain ⟨tx, ⟨r, hr⟩ | he⟩ := oneFrame_bind_pure reply hx s
  · rw [hr]
    exact ⟨hopen, tx, .inl ⟨r, rfl⟩⟩
  · rw [he]
    exact ⟨hopen, tx, .inr (State.raised_open (s := s.framed tx) hopen .busError)⟩

theorem exec_frame_cases (hi : ¬isHostCommand i) (h : exec i s = .next t) :
    s.inSession = true ∧
      ∃ tx, (∃ r, t = (s.framed tx).withReply r) ∨ t = (s.framed tx).closeSession.ended .busError .none := by
  cases i with
  | wRegister addr data => exact framePrimitive_cases (oneFrame_writeReg _ _) (fun _ => .none) h
  | rRegister addr n => exact framePrimitive_cases (oneFrame_readRegs _ _) .bytes h
  | rRxPayload n => exact framePrimitive_cases (oneFrame_readRxPayload _) .bytes h
  | wTxPayload payload => exact framePrimitive_cases (oneFrame_writeTxPayload _) (fun _ => .none) h
  | flushTxFrame => exact framePrimitive_cases oneFrame_flushTxFifo (fun _ => .none) h
  | flushRxFrame => exact framePrimitive_cases oneFrame_flushRxFifo (fun _ => .none) h
  | initialise cfg =>
    cases cfg with
    | defaultCfg => exact (hi rfl).elim
    | record c => exact (hi rfl).elim
  | _ => exact (hi rfl).elim

/-! ### Every instruction -/

/-- The three forms of an instruction's next state: a frame's, SEND_PACKET's, the end of any other host command. -/
theorem exec_next_cases (h : exec i s = .next t) :
    ¬isHostCommand i ∨ (∃ payload, i = .sendPacket payload) ∨ Ends s i s t := by
  by_cases hhost : isHostCommand i
  · by_cases hsend : ∃ payload, i = .sendPacket payload
    · exact .inr (.inl hsend)
    · exact .inr (.inr (nextIn_ends hhost (fun p hp => hsend ⟨p, hp⟩) t h))
  · exact .inl hhost

/-- Whatever an instruction does, it does by its own updates. -/
theorem exec_reach (h : exec i s = .next t) : Reach s i s t := by
  obtain hframe | ⟨payload, rfl⟩ | hends := exec_next_cases h
  · have hsent : ∀ tx, Reach s i s (s.framed tx) := fun tx => .single (.framed tx)
    obtain ⟨-, tx, ⟨r, rfl⟩ | rfl⟩ := exec_frame_cases hframe h
    · exact (hsent tx).tail (.withReply r)
    · exact ((hsent tx).tail .closeSession).tail (.ended _ nofun)
  · obtain hends | ⟨s', hpre, hrest⟩ := execSendPacket_cases h
    · exact hends.reach
    · have hready : Reach s (.sendPacket payload) s s' := by
        obtain ⟨-, rfl⟩ | ⟨-, hends⟩ := hpre
        · exact .refl
        · exact hends.reach
      obtain hends | ⟨tx, rfl⟩ := hrest
      · exact hready.trans hends.reach
      · exact (((hready.tail .openSession).tail (.framed tx)).tail .pulsed).tail .startsWait
  · exact hends.reach

end NextStates
end Sys2Proof.Machine

/-! SUPPORT. What one turn of SEND_PACKET's wait can do (R204 to R206): one poll or the flush at the limit, and then an
end of the command or one more turn. -/

namespace Sys2Proof.Machine

open Sys2Proof.Safety

/-- Some frames were sent from `s`, the last poll among them left `v` in `st.lastStatus`: CSN is high, and nothing else
but the environment and the trace has changed. -/
def State.Exchanged (s : State) (v : Byte) (u : State) : Prop :=
  ∃ env trace, u = { s with csn := .high, env := env, trace := trace, lastStatus := v }

/-- A poll, whatever its end, leaves in `st.lastStatus` the byte its read answered, if any (R33, R200). -/
theorem poll_exchanged (s : State) :
    match poll s with
      | .ok _ u => s.Exchanged (lastStatusAfterPoll s) u
      | .error e u => e = .busError ∧ s.Exchanged (lastStatusAfterPoll s) u := by
  rw [poll_run]
  cases hread : (s.env.answer [0x07, s.params.nopByte]).1 with
  | short =>
    have hreceived : received s.env [0x07, s.params.nopByte] = none := by rw [received, hread]
    rw [lastStatusAfterPoll, hreceived]
    exact ⟨rfl, _, _, rfl⟩
  | ok rx =>
    have hreceived : received s.env [0x07, s.params.nopByte] = some rx := by rw [received, hread]
    rw [lastStatusAfterPoll, statusRead, valueRead, hreceived]
    simp only [Option.isSome_some, if_true, Option.getD_some]
    generalize rx.getD 1 0 = v
    have hclears : s.Exchanged v (((s.framed [0x07, s.params.nopByte]).withStatus v).observed
        (play (clears v) (s.env.answer [0x07, s.params.nopByte]).2)) := by
      obtain ⟨hcsn, hce⟩ := clears_levels v (s.env.answer [0x07, s.params.nopByte]).2 s.ce
      simp only [State.Exchanged, State.observed, State.withStatus, State.framed, hcsn, hce]
      exact ⟨_, _, rfl⟩
    cases (play (clears v) ((s.framed [0x07, s.params.nopByte]).withStatus v).env).complete with
    | true => exact hclears
    | false => exact ⟨rfl, hclears⟩

/-- Giving the packet up is one frame, then the release where it is answered (R154, R206). -/
theorem giveUp_cases (code : ResultCode) (s : State) :
    ∃ tx, giveUp code s = .ok (.finished code) (s.framed tx).closeSession ∨
      giveUp code s = .error .busError (s.framed tx) := by
  obtain ⟨tx, ⟨v, hv⟩ | he⟩ := oneFrame_flushTxFifo s
  · exact ⟨tx, .inl (by rw [giveUp, bind_run, hv]; rfl)⟩
  · exact ⟨tx, .inr (by rw [giveUp, bind_run, he])⟩

/-- How a turn may end, with `v` in `st.lastStatus`. -/
inductive TurnEnds (s : State) (v : Byte) : EStateM.Result ResultCode State WaitTurn → Prop
  | finished {u code} (hu : s.Exchanged v u) (hcode : code ≠ .modeError) :
      TurnEnds s v (.ok (.finished code) u.closeSession)
  | again {u} (hu : s.Exchanged v u) : TurnEnds s v (.ok .again u)
  | raised {u} (hu : s.Exchanged v u) : TurnEnds s v (.error .busError u)

theorem turnEnds_giveUp {s u : State} {v : Byte} {code : ResultCode} (hu : s.Exchanged v u)
    (hcode : code ≠ .modeError) : TurnEnds s v (giveUp code u) := by
  obtain ⟨env, trace, rfl⟩ := hu
  obtain ⟨tx, hrun | hrun⟩ := giveUp_cases code { s with csn := .high, env := env, trace := trace, lastStatus := v }
  · rw [hrun]
    exact .finished ⟨_, _, rfl⟩ hcode
  · rw [hrun]
    exact .raised ⟨_, _, rfl⟩

/-- All a turn can do: at the limit it gives up with `Timeout`; else it polls, and ends, gives up or goes on (R205). -/
theorem waitTurn_ends (i : Nat) (s : State) :
    TurnEnds s (if s.params.pollLimit = some i then s.lastStatus else lastStatusAfterPoll s) (waitTurn i s) := by
  rw [waitTurn, bind_run, look_run]
  dsimp only
  split
  case isTrue =>
    obtain ⟨tx, hrun | hrun⟩ := giveUp_cases .timeout s
    · rw [hrun]
      exact .finished ⟨_, _, rfl⟩ nofun
    · rw [hrun]
      exact .raised ⟨_, _, rfl⟩
  case isFalse =>
    have hpoll := poll_exchanged s
    rw [bind_run]
    cases hrun : poll s with
    | error e u =>
      rw [hrun] at hpoll
      obtain ⟨rfl, hu⟩ := hpoll
      exact .raised hu
    | ok read u =>
      rw [hrun] at hpoll
      obtain ⟨code, v⟩ := read
      dsimp only
      cases completion s.params.completionTest code v with
      | sent => exact .finished hpoll nofun
      | maxrt => exact turnEnds_giveUp hpoll nofun
      | keepPolling => exact .again hpoll

/-- The next state of a turn: the end of the command, or the wait's next turn. -/
theorem stepWait_cases {i : Nat} {s t : State} (h : stepWait i s = .next t) :
    ∃ u, s.Exchanged (if s.params.pollLimit = some i then s.lastStatus else lastStatusAfterPoll s) u ∧
      ((∃ code, code ≠ .modeError ∧ t = u.closeSession.ended code .none) ∨ t = u.raised .busError ∨
        t = u.withPhase (.waiting (i + 1))) := by
  cases h
  have hends := waitTurn_ends i s
  generalize waitTurn i s = turn at hends
  cases hends with
  | finished hu hcode => exact ⟨_, hu, .inl ⟨_, hcode, rfl⟩⟩
  | again hu => exact ⟨_, hu, .inr (.inr rfl)⟩
  | raised hu => exact ⟨_, hu, .inr (.inl rfl)⟩

/-- A step while SEND_PACKET waits is a turn of its wait (R12, R205). -/
theorem step_busy {s t : State} (hbusy : s.phase ≠ .idle) (h : step s = .next t) :
    ∃ i, s.phase = .waiting i ∧ stepWait i s = .next t := by
  obtain hturn | ⟨hidle, -, -⟩ | ⟨_, _, _, hidle, -, -, -⟩ := step_next_cases h
  · exact hturn
  · exact absurd hidle hbusy
  · exact absurd hidle hbusy

/-- What a turn leaves as it was, and what it leaves in `st.lastStatus`. -/
theorem stepWait_frame {i : Nat} {s t : State} (h : stepWait i s = .next t) :
    t.lastStatus = (if s.params.pollLimit = some i then s.lastStatus else lastStatusAfterPoll s) ∧
      t.mode = s.mode ∧ t.cfg = s.cfg ∧ t.awb = s.awb ∧ t.p0 = s.p0 ∧ t.ce = s.ce ∧ t.params = s.params ∧
      t.port = s.port := by
  obtain ⟨_, ⟨env, trace, rfl⟩, ⟨code, -, rfl⟩ | rfl | rfl⟩ := stepWait_cases h
  · exact ⟨rfl, rfl, rfl, rfl, rfl, rfl, rfl, rfl⟩
  · simp
  · exact ⟨rfl, rfl, rfl, rfl, rfl, rfl, rfl, rfl⟩

end Sys2Proof.Machine

/-! SUPPORT. The obligations of 10_state.md: the block invariant, the writers of each field, and the fields that events,
ends of commands and turns of the wait write. -/

namespace Sys2Proof.Machine

open Sys2Proof.Safety

/-! ### The writers of each field, update by update (R20) -/

section Writers

variable {s₀ a b : State} {i : Instr}

theorem Update.mode_eq (h : Update s₀ i a b) (hi : ¬isModeCommand i) : b.mode = a.mode := by
  cases h with
  | withMode hmode _ => exact absurd hmode hi
  | pulsed => exact absurd trivial hi
  | _ => rfl

theorem Update.ce_eq (h : Update s₀ i a b) (hi : ¬isModeCommand i) : b.ce = a.ce := by
  cases h with
  | driveCE hmode _ => exact absurd hmode hi
  | pulsed => exact absurd trivial hi
  | _ => rfl

theorem Update.lastStatus_eq (h : Update s₀ i a b) (h₁ : i ≠ .isPacket) (h₂ : i ≠ .checkStatusIrq) :
    b.lastStatus = a.lastStatus := by
  cases h with
  | withStatus hi _ => exact (hi.elim h₁ h₂).elim
  | _ => rfl

variable (h : Update s₀ i a b) (hi : ∀ c, i ≠ .initialise c)
include h hi

theorem Update.awb_eq : b.awb = a.awb := by
  cases h with
  | committed => exact absurd rfl (hi _)
  | _ => rfl

theorem Update.aw_eq : b.cfg.aw = a.cfg.aw := by
  cases h with
  | committed => exact absurd rfl (hi _)
  | _ => rfl

theorem Update.dyn_eq (h₁ : i ≠ .dynPayloadsEnable) (h₂ : i ≠ .dynPayloadsDisable) : b.cfg.dyn = a.cfg.dyn := by
  cases h with
  | committed => exact absurd rfl (hi _)
  | dynEnabled => exact absurd rfl h₁
  | dynDisabled => exact absurd rfl h₂
  | _ => rfl

theorem Update.retransmission_eq (h₁ : ∀ ard arc, i ≠ .autoRetransmission ard arc) :
    (b.cfg.ard, b.cfg.arc) = (a.cfg.ard, a.cfg.arc) := by
  cases h with
  | committed => exact absurd rfl (hi _)
  | retransmission => exact absurd rfl (h₁ _ _)
  | _ => rfl

theorem Update.dr_eq (h₁ : ∀ dr, i ≠ .rfDataRate dr) : b.cfg.dr = a.cfg.dr := by
  cases h with
  | committed => exact absurd rfl (hi _)
  | dataRate => exact absurd rfl (h₁ _)
  | _ => rfl

theorem Update.pwr_eq (h₁ : ∀ pwr, i ≠ .rfPower pwr) : b.cfg.pwr = a.cfg.pwr := by
  cases h with
  | committed => exact absurd rfl (hi _)
  | power => exact absurd rfl (h₁ _)
  | _ => rfl

theorem Update.ch_eq (h₁ : ∀ ch, i ≠ .rfChannel ch) : b.cfg.ch = a.cfg.ch := by
  cases h with
  | committed => exact absurd rfl (hi _)
  | channel => exact absurd rfl (h₁ _)
  | _ => rfl

theorem Update.p0_eq (h₁ : ∀ addr, i ≠ .rxDestination 0 addr) : b.p0 = a.p0 := by
  cases h with
  | committed => exact absurd rfl (hi _)
  | cacheP0 => exact absurd rfl (h₁ _)
  | _ => rfl

end Writers

/-! ### The values of the caches, the mode and the result -/

/-- The part of the block invariant that every single update of an instruction keeps. -/
structure CoreInv (s : State) : Prop where
  cache : cfgLegal s.cfg
  width : s.awb.toNat = s.cfg.aw.toNat + 2
  pipe0 : s.p0.present = true → s.p0.addr.length = s.awb.toNat
  mode : s.mode ≠ .tx
  result : s.result ≠ .modeError

theorem widthBytes_toNat (aw : BitVec 2) : (widthBytes aw).toNat = aw.toNat + 2 := by
  revert aw
  decide

theorem legalAw_setWidth {aw : Byte} (h : legalAw aw = true) : aw.setWidth 2 ≠ 0 := by
  revert aw
  decide

theorem legalArd_mem {ard : Byte} (h : legalArd ard = true) : ard ∈ [0x00#8, 0x10#8, 0x20#8, 0x30#8] := by
  simpa [legalArd, or_assoc] using h

theorem legalDr_mem {dr : Byte} (h : legalDr dr = true) : dr ∈ [0x00#8, 0x08#8, 0x20#8] := by
  simpa [legalDr, or_assoc] using h

theorem legalPwr_mem {pwr : Byte} (h : legalPwr pwr = true) : pwr ∈ [0x00#8, 0x02#8, 0x04#8, 0x06#8] := by
  simpa [legalPwr, or_assoc] using h

/-- A legal channel is kept whole by the seven bits of the cache. -/
theorem legalCh_bounds {ch : Byte} (h : legalCh ch = true) :
    2 ≤ (ch.setWidth 7).toNat ∧ (ch.setWidth 7).toNat ≤ 125 := by
  have hbounds : 2 ≤ ch.toNat ∧ ch.toNat ≤ 125 := by simpa [legalCh] using h
  rw [BitVec.toNat_setWidth]
  omega

/-- A configuration that passes R144's checks is legal in the cache (R20). -/
theorem cfgLegal_ofRecord {c : CfgRecord} (h : legalCfg c = true) : cfgLegal (Cfg.ofRecord c) := by
  simp only [legalCfg, Bool.and_eq_true] at h
  obtain ⟨⟨⟨⟨⟨⟨haw, hch⟩, hdr⟩, hpwr⟩, hard⟩, -⟩, -⟩ := h
  exact ⟨legalAw_setWidth haw, legalArd_mem hard, legalDr_mem hdr, legalPwr_mem hpwr, legalCh_bounds hch⟩

/-- The commit keeps a cached pipe-0 address only where the width stays (R31, R145). -/
theorem CoreInv.committed {s : State} {c : CfgRecord} (h : CoreInv s) (legal : legalCfg c = true) :
    CoreInv (s.committed c) where
  cache := cfgLegal_ofRecord legal
  width := widthBytes_toNat _
  pipe0 := by
    rw [State.committed_p0, State.committed_awb, widthBytes_toNat]
    by_cases haw : c.aw.setWidth 2 = s.cfg.aw
    · rw [haw, ← h.width]
      simpa using h.pipe0
    · simp [haw]
  mode := h.mode
  result := h.result

section CoreInvariant

variable {s₀ a b s t : State} {i : Instr}

theorem Update.coreInv (h : Update s₀ i a b) (hwidth : (∀ c, i ≠ .initialise c) → a.awb = s₀.awb) (ha : CoreInv a) :
    CoreInv b := by
  obtain ⟨haw, hard, hdr, hpwr, hch⟩ := ha.cache
  cases h with
  | ended _ hcode => exact { ha with result := hcode }
  | withMode _ hm => exact { ha with mode := hm }
  | pulsed => exact { ha with mode := nofun }
  | committed legal => exact ha.committed legal
  | retransmission legal => exact { ha with cache := ⟨haw, legalArd_mem legal, hdr, hpwr, hch⟩ }
  | channel legal => exact { ha with cache := ⟨haw, hard, hdr, hpwr, legalCh_bounds legal⟩ }
  | dataRate legal => exact { ha with cache := ⟨haw, hard, legalDr_mem legal, hpwr, hch⟩ }
  | power legal => exact { ha with cache := ⟨haw, hard, hdr, legalPwr_mem legal, hch⟩ }
  | cacheP0 hlen =>
    have hawb : a.awb = s₀.awb := hwidth nofun
    refine { ha with pipe0 := fun _ => ?_ }
    rw [State.cacheP0_p0, State.cacheP0_awb, hawb]
    exact List.length_take_of_le hlen
  | _ => exact { ha with }

theorem Reach.awb_eq (h : Reach s₀ i a b) (hi : ∀ c, i ≠ .initialise c) : b.awb = a.awb :=
  h.unchanged State.awb fun hupdate => hupdate.awb_eq hi

theorem Reach.coreInv (h : Reach s₀ i a b) (hwidth : (∀ c, i ≠ .initialise c) → a.awb = s₀.awb) (ha : CoreInv a) :
    CoreInv b := by
  have hkept : ((∀ c, i ≠ .initialise c) → b.awb = s₀.awb) ∧ CoreInv b :=
    h.keeps (P := fun c => ((∀ cfg, i ≠ .initialise cfg) → c.awb = s₀.awb) ∧ CoreInv c)
      (fun hupdate ⟨hw, hc⟩ => ⟨fun hi => (hupdate.awb_eq hi).trans (hw hi), hupdate.coreInv hw hc⟩) ⟨hwidth, ha⟩
  exact hkept.2

/-! ### The block invariant -/

/-- With a session closed after a frame and the command ended, the block is between two commands (R140, R224). -/
theorem CoreInv.blockInv_closed {u : State} {code : ResultCode} (hu : CoreInv u) (hcsn : u.csn = .high)
    (hcode : code ≠ .modeError) (r : Reply) : BlockInv (u.closeSession.ended code r) :=
  { hu with
    result := hcode
    session := ⟨nofun, fun hbusy => absurd rfl hbusy⟩
    wait := fun hbusy => absurd rfl hbusy
    csn := fun _ => hcsn }

theorem Ends.phase_idle (h : Ends s₀ i s t) : t.phase = .idle := by
  cases h with
  | direct => rfl
  | session => rfl

theorem Ends.blockInv (h : Ends s₀ i s t) (hidle : s.phase = .idle)
    (hwidth : (∀ c, i ≠ .initialise c) → s.awb = s₀.awb) (hs : BlockInv s) : BlockInv t := by
  cases h with
  | direct r hcode =>
    have hclosed : s.inSession ≠ true := fun hopen => hs.session.mp hopen hidle
    exact { hs with
      result := hcode
      session := ⟨fun hopen => absurd hopen hclosed, fun hbusy => absurd rfl hbusy⟩
      wait := fun hbusy => absurd rfl hbusy }
  | session r hcode hu hcsn =>
    have hopen : CoreInv s.openSession := { hs with }
    exact (hu.reach.coreInv hwidth hopen).blockInv_closed hcsn hcode r

/-- Where SEND_PACKET's wait starts the session is open, the mode StandbyI and CE low (R157, R158). -/
theorem blockInv_startsWait (hs : BlockInv s) (tx : List Byte) :
    BlockInv ((s.openSession.framed tx).pulsed.withPhase (.waiting 0)) :=
  { hs with
    mode := nofun
    session := ⟨fun _ => nofun, fun _ => rfl⟩
    wait := fun _ => ⟨rfl, rfl⟩
    csn := fun _ => rfl }

/-- An instruction run between two commands keeps the block invariant. -/
theorem exec_blockInv (hs : BlockInv s) (hidle : s.phase = .idle) (h : exec i s = .next t) : BlockInv t := by
  obtain hframe | ⟨payload, rfl⟩ | hends := exec_next_cases h
  · exact absurd hidle (hs.session.mp (exec_frame_cases hframe h).1)
  · obtain hends | ⟨s', hpre, hrest⟩ := execSendPacket_cases h
    · exact hends.blockInv hidle (fun _ => rfl) hs
    · have hready : BlockInv s' ∧ s'.phase = .idle ∧ s'.awb = s.awb := by
        obtain ⟨-, rfl⟩ | ⟨-, hends⟩ := hpre
        · exact ⟨hs, hidle, rfl⟩
        · exact ⟨hends.blockInv hidle (fun _ => rfl) hs, hends.phase_idle, hends.reach.awb_eq nofun⟩
      obtain ⟨hs', hidle', hawb⟩ := hready
      obtain hends | ⟨tx, rfl⟩ := hrest
      · exact hends.blockInv hidle' (fun _ => hawb) hs'
      · exact blockInv_startsWait hs' tx
  · exact hends.blockInv hidle (fun _ => rfl) hs

/-- A turn of the wait keeps the block invariant. -/
theorem stepWait_blockInv {n : Nat} (hs : BlockInv s) (hwaits : s.phase = .waiting n) (h : stepWait n s = .next t) :
    BlockInv t := by
  have hbusy : s.phase ≠ .idle := by
    rw [hwaits]
    nofun
  have hopen : s.inSession = true := hs.session.mpr hbusy
  obtain ⟨u, hu, hend⟩ := stepWait_cases h
  have hsent : u.inSession = true ∧ u.csn = .high ∧ CoreInv u := by
    obtain ⟨env, trace, rfl⟩ := hu
    exact ⟨hopen, rfl, { hs with }⟩
  obtain ⟨hopenu, hcsn, hcore⟩ := hsent
  obtain ⟨code, hcode, rfl⟩ | rfl | rfl := hend
  · exact hcore.blockInv_closed hcsn hcode .none
  · rw [State.raised_open hopenu]
    exact hcore.blockInv_closed (code := .busError) hcsn nofun .none
  · obtain ⟨env, trace, rfl⟩ := hu
    exact { hs with
      session := ⟨fun _ => nofun, fun _ => hopen⟩
      wait := fun _ => hs.wait hbusy
      csn := fun _ => rfl }

end CoreInvariant

/-- Settles O10: between two commands an instruction keeps the invariant, during the wait a turn does, and taking a
record off the port or waiting for the host touches none of its fields. -/
theorem stepKeepsBlockInvariant : Obligations.StepKeepsBlockInvariant := by
  unfold Obligations.StepKeepsBlockInvariant
  intro s t hs hstep
  obtain ⟨n, hwaits, hturn⟩ | ⟨-, -, rfl⟩ | ⟨_, later, i, hidle, -, -, hexec⟩ := step_next_cases hstep
  · exact stepWait_blockInv hs hwaits hturn
  · exact hs
  · have htaken : BlockInv { s with port := later } := { hs with }
    exact exec_blockInv htaken hidle hexec

/-! ### The writers -/

/-- Settles O13: the only updates that write the mode are those of the four commands, and a turn of the wait has none
of them. -/
theorem modeWrittenOnlyBySequencer : Obligations.ModeWrittenOnlyBySequencer := by
  unfold Obligations.ModeWrittenOnlyBySequencer
  constructor
  · intro i s t hi hexec
    exact (exec_reach hexec).unchanged State.mode fun hupdate => hupdate.mode_eq hi
  · intro s t hbusy hstep
    obtain ⟨i, -, hturn⟩ := step_busy hbusy hstep
    obtain ⟨-, hmode, -⟩ := stepWait_frame hturn
    exact hmode

/-- Settles O14: a field that none of the instruction's updates writes is unchanged, field by field. -/
theorem fieldsHaveOnlyTheirWriters : Obligations.FieldsHaveOnlyTheirWriters := by
  unfold Obligations.FieldsHaveOnlyTheirWriters
  intro i s t hexec
  have hreach := exec_reach hexec
  exact ⟨
    fun hi => ⟨hreach.awb_eq hi, hreach.unchanged (·.cfg.aw) fun hupdate => hupdate.aw_eq hi⟩,
    fun hi h₁ h₂ => hreach.unchanged (·.cfg.dyn) fun hupdate => hupdate.dyn_eq hi h₁ h₂,
    fun hi h₁ => Prod.ext_iff.mp <|
      hreach.unchanged (fun u => (u.cfg.ard, u.cfg.arc)) fun hupdate => hupdate.retransmission_eq hi h₁,
    fun hi h₁ => hreach.unchanged (·.cfg.dr) fun hupdate => hupdate.dr_eq hi h₁,
    fun hi h₁ => hreach.unchanged (·.cfg.pwr) fun hupdate => hupdate.pwr_eq hi h₁,
    fun hi h₁ => hreach.unchanged (·.cfg.ch) fun hupdate => hupdate.ch_eq hi h₁,
    fun hi h₁ => hreach.unchanged State.p0 fun hupdate => hupdate.p0_eq hi h₁,
    fun h₁ h₂ => hreach.unchanged State.lastStatus fun hupdate => hupdate.lastStatus_eq h₁ h₂,
    fun hi => hreach.unchanged State.ce fun hupdate => hupdate.ce_eq hi,
    (exec_continues hexec).port, (exec_continues hexec).params⟩

/-! ### What the events say of the levels and the session -/

/-- CE, CSN and the session of `t` are what the events emitted since `s` make of those of `s` (R34, R35). -/
def State.Observes (s t : State) : Prop :=
  ∃ events, t.trace = s.trace ++ events ∧ t.ce = ceAfter events s.ce ∧ t.csn = csnAfter events s.csn ∧
    t.inSession = sessionAfter events s.inSession

theorem State.Observes.refl (s : State) : s.Observes s := ⟨[], (List.append_nil _).symm, rfl, rfl, rfl⟩

/-- After any events more, with what they say. -/
theorem State.Observes.emits {s t u : State} (h : s.Observes t) (more : List Event) (htrace : u.trace = t.trace ++ more)
    (hce : u.ce = ceAfter more t.ce) (hcsn : u.csn = csnAfter more t.csn)
    (hsession : u.inSession = sessionAfter more t.inSession) : s.Observes u := by
  obtain ⟨events, ht, hce', hcsn', hsession'⟩ := h
  refine ⟨events ++ more, ?_, ?_, ?_, ?_⟩
  · rw [htrace, ht, List.append_assoc]
  · rw [hce, hce', ceAfter_append]
  · rw [hcsn, hcsn', csnAfter_append]
  · rw [hsession, hsession', sessionAfter_append]

theorem keptByUpdates_observes (s : State) : KeptByUpdates s.Observes where
  framed _ h := h.emits _ rfl rfl rfl rfl
  openSession h := h.emits _ rfl rfl rfl rfl
  closeSession h := h.emits _ rfl rfl rfl rfl
  driveCE _ h := h.emits _ rfl rfl rfl rfl
  driveCSN _ h := h.emits _ rfl rfl rfl rfl
  waited _ h := h.emits _ rfl rfl rfl rfl
  withMode _ h := h
  withCfg _ h := h
  committed _ h := h
  cacheP0 _ h := h
  withStatus _ h := h
  withPhase _ h := h
  withReply _ h := h
  ended _ _ h := h

theorem exec_observes {i : Instr} {s t : State} (h : exec i s = .next t) : s.Observes t :=
  nextIn_exec (keptByUpdates_observes s) i (.refl s) t h

/-- Settles O48: each update that drives a level, opens or closes the session emits the event that says so, and no other
touches them. -/
theorem levelsAndSessionFollowEvents : Obligations.LevelsAndSessionFollowEvents := by
  unfold Obligations.LevelsAndSessionFollowEvents
  rintro s t (hstep | ⟨i, hexec⟩)
  · obtain ⟨i, -, hturn⟩ | ⟨-, -, rfl⟩ | ⟨_, later, i, -, -, -, hexec⟩ := step_next_cases hstep
    · exact nextIn_stepWait (keptByUpdates_observes s) i (.refl s) t hturn
    · exact State.Observes.refl t
    · exact exec_observes (s := { s with port := later }) hexec
  · exact exec_observes hexec

/-! ### The result and the turns of the wait -/

/-- Settles O49: of the forms a next state has, those in which no command has ended have the result of before. -/
theorem resultWrittenAtCommandEnd : Obligations.ResultWrittenAtCommandEnd := by
  unfold Obligations.ResultWrittenAtCommandEnd
  intro s t
  refine ⟨fun i hframe hexec hopen => ?_, fun payload hrx hexec hbusy => ?_, fun hwaits hstep hbusy => ?_⟩
  case refine_1 =>
    obtain ⟨-, tx, ⟨r, rfl⟩ | rfl⟩ := exec_frame_cases hframe hexec
    · rfl
    · exact absurd hopen Bool.false_ne_true
  case refine_2 =>
    obtain hends | ⟨s', ⟨-, rfl⟩ | ⟨hrx', -⟩, hrest⟩ := execSendPacket_cases hexec
    · exact absurd hends.phase_idle hbusy
    · obtain hends | ⟨tx, rfl⟩ := hrest
      · exact absurd hends.phase_idle hbusy
      · rfl
    · exact absurd hrx' hrx
  case refine_3 =>
    obtain ⟨n, -, hturn⟩ := step_busy hwaits hstep
    obtain ⟨_, ⟨env, trace, rfl⟩, ⟨code, -, rfl⟩ | rfl | rfl⟩ := stepWait_cases hturn
    · exact absurd rfl hbusy
    · exact absurd (State.raised_phase _ _) hbusy
    · rfl

/-- Settles O50: a turn sends frames, at most one of them a poll, and then ends the command or counts one more turn. -/
theorem waitTurnFrame : Obligations.WaitTurnFrame := by
  unfold Obligations.WaitTurnFrame
  intro s t i hwaits hstep
  rw [step_waiting hwaits] at hstep
  exact stepWait_frame hstep

end Sys2Proof.Machine

/-! SUPPORT. The obligations of 20_memory.md: what the answers of a transfer have in common, what a frame instruction
needs, and what a write does to the registers of the device double. -/

namespace Sys2Proof.Machine

open Sys2Proof.Safety

/-! ### Transfers (R54) -/

/-- Settles O16: a fixed answer and the double's are checked against what was sent, and a free one is drawn to its
length. -/
theorem transferAnswersInFull : Obligations.TransferAnswersInFull := by
  unfold Obligations.TransferAnswersInFull
  intro e e' tx rx h
  unfold Env.answer at h
  split at h
  · exact XferResult.checked_ok (congrArg Prod.fst h)
  · split at h
    · exact XferResult.checked_ok (congrArg Prod.fst h)
    · exact freeAnswer_ok (congrArg Prod.fst h)

/-! ### What a frame instruction needs (R54, R57, R120) -/

theorem framePrimitive_closed {s : State} (h : s.inSession = false) (fits : Bool) (body : Act Reply) :
    framePrimitive s fits body = .refused .frameOutsideSession := by
  simp [framePrimitive, h]

theorem framePrimitive_illegalLength {s : State} (h : s.inSession = true) (body : Act Reply) :
    framePrimitive s false body = .refused .frameLength := by
  simp [framePrimitive, h]

/-- An instruction that is no host command is a frame, and the length its meaning tests is the one that makes it
well formed. -/
theorem exec_of_not_isHostCommand {i : Instr} (h : ¬isHostCommand i) (s : State) :
    ∃ body, exec i s = framePrimitive s i.wellFormed body := by
  cases i with
  | wRegister | rRegister | rRxPayload | wTxPayload | flushTxFrame | flushRxFrame => exact ⟨_, rfl⟩
  | initialise cfg => cases cfg <;> exact absurd rfl h
  | _ => exact absurd rfl h

/-- Settles O19: a frame's meaning stands behind the tests for an open session and for its length, in this order. -/
theorem framePreconditions : Obligations.FramePreconditions := by
  unfold Obligations.FramePreconditions
  constructor
  · intro i s hframe hclosed
    obtain ⟨body, hbody⟩ := exec_of_not_isHostCommand hframe s
    rw [hbody, framePrimitive_closed hclosed]
  · intro i s hframe hopen hlength
    obtain ⟨body, hbody⟩ := exec_of_not_isHostCommand hframe s
    rw [hbody, hlength, framePrimitive_illegalLength hopen]

/-! ### Writes to the double's registers (R64) -/

theorem Double.writeRegister_status (d : Double) (v : List Byte) :
    d.writeRegister 0x07 v = d.setStatus (clearLatches d.status (v.headD 0)) :=
  if_pos rfl

theorem Double.writeRegister_of_ne {a : BitVec 5} (h : a ≠ 0x07) (d : Double) (v : List Byte) :
    d.writeRegister a v = d.setReg a ((d.reg a).overwrite v) :=
  if_neg h

/-- The mask of R64 holds the bits 4 to 6 of a byte. -/
theorem latchMask_getLsbD (j : Nat) : (0x70 : Byte).getLsbD j = (4 ≤ j && j ≤ 6) := by
  by_cases hj : j < 8
  · revert j
    decide
  · have hhigh : ¬j ≤ 6 := by omega
    rw [BitVec.getLsbD_of_ge _ _ (Nat.le_of_not_lt hj), decide_eq_false hhigh, Bool.and_false]

theorem clearLatches_getLsbD (status v : Byte) (j : Nat) :
    (clearLatches status v).getLsbD j = (status.getLsbD j && !(4 ≤ j && j ≤ 6 && v.getLsbD j)) := by
  by_cases hj : j < 8
  · simp only [clearLatches, BitVec.getLsbD_and, BitVec.getLsbD_not, latchMask_getLsbD, hj, decide_true,
      Bool.true_and, Bool.and_comm (v.getLsbD j)]
  · simp only [BitVec.getLsbD_of_ge _ _ (Nat.le_of_not_lt hj), Bool.false_and]

/-- Settles O46: a write of STATUS clears, in STATUS, the latches written 1. -/
theorem doubleClearsWrittenLatches : Obligations.DoubleClearsWrittenLatches := by
  unfold Obligations.DoubleClearsWrittenLatches
  intro d v j
  rw [Double.writeRegister_status, Double.status_setStatus]
  exact clearLatches_getLsbD d.status v j

/-! ### The effective addresses of the double (R65) -/

/-- A pipe that shares pipe 1's upper bytes reads as its own first byte and then those. -/
theorem Double.effective_bytes_shared {a : BitVec 5} (h : 0x0C ≤ a.toNat ∧ a.toNat ≤ 0x0F) (d : Double) :
    (d.effective a).bytes = (d.reg a).b0 :: (d.reg 0x0B).bytes.drop 1 := by
  rw [Double.effective, if_pos h]
  rfl

/-- A write of one byte to a register other than STATUS replaces its first byte, and leaves every other register. -/
theorem Double.reg_writeRegister_one {a : BitVec 5} (h : a ≠ 0x07) (d : Double) (b : Byte) (a' : BitVec 5) :
    (d.writeRegister a [b]).reg a' = if a' = a then { d.reg a with b0 := b } else d.reg a' := by
  rw [Double.writeRegister_of_ne h, Double.reg_setReg, Register.overwrite_one]

/-- Settles O47: neither write is to STATUS, so each goes into its own register: pipe 1's keeps the five bytes written,
and pipe `p`'s has the written byte first. -/
theorem doublePipeSharesUpperBytes : Obligations.DoublePipeSharesUpperBytes := by
  unfold Obligations.DoublePipeSharesUpperBytes
  intro d p b a hlow hhigh hlength
  have hshared : 0x0C ≤ (0x0A + p).toNat ∧ (0x0A + p).toNat ≤ 0x0F := by bv_omega
  have hstatus : 0x0A + p ≠ 0x07 := by bv_omega
  have hpipe1 : 0x0B ≠ 0x0A + p := by bv_omega
  have hupper : ((d.writeRegister 0x0B a).reg 0x0B).bytes = a := by
    rw [Double.writeRegister_of_ne (by decide), Double.reg_setReg_self, Register.bytes_overwrite_full _ _ hlength]
  rw [Double.effective_bytes_shared hshared, Double.reg_writeRegister_one hstatus,
    Double.reg_writeRegister_one hstatus, if_pos rfl, if_neg hpipe1, hupper]

end Sys2Proof.Machine

/-! SUPPORT. Decoding and encoding, inverse to each other on each side of the two code spaces: the operand layouts of
host records, the lengths and the command bytes of frames. -/

namespace Sys2Proof

open Sys2Proof.Safety

/-! ### Operand layouts of host records (log entry 1)

Where the encoder lays an instruction's operands out as one of the decoder's layouts reads them, what was read is
encoded as the operand bytes it was read from. -/

section Layouts

variable {nop code : Byte} {ops : List Byte} {j : Instr}

theorem encode_of_operands0 {i : Instr} (hread : operands0 code i ops = .ok j)
    (hlayout : encode nop i = hostRecord code []) : encode nop j = hostRecord code ops := by
  cases ops with
  | nil =>
    cases hread
    exact hlayout
  | cons => cases hread

theorem encode_of_operands1 {f : Byte → Instr} (hread : operands1 code f ops = .ok j)
    (hlayout : ∀ a, encode nop (f a) = hostRecord code [a]) : encode nop j = hostRecord code ops := by
  match ops, hread with
  | [a], rfl => exact hlayout a

theorem encode_of_operands2 {f : Byte → Byte → Instr} (hread : operands2 code f ops = .ok j)
    (hlayout : ∀ a b, encode nop (f a b) = hostRecord code [a, b]) : encode nop j = hostRecord code ops := by
  match ops, hread with
  | [a, b], rfl => exact hlayout a b

theorem encode_of_operands1List {f : Byte → List Byte → Instr} (hread : operands1List code f ops = .ok j)
    (hlayout : ∀ a xs, encode nop (f a xs) = hostRecord code (a :: xs)) : encode nop j = hostRecord code ops := by
  match ops, hread with
  | a :: xs, rfl => exact hlayout a xs

theorem encode_of_operandsCfg (hread : operandsCfg ops = .ok j) : encode nop j = hostRecord 0x01 ops := by
  match ops, hread with
  | [], rfl => rfl
  | [_, _, _, _, _, _, _], rfl => rfl

end Layouts

/-! ### Host records (R101) -/

/-- What a host record decodes to is encoded as that record, row by row of R101. -/
theorem encode_of_decodeHost {code : Byte} {ops : List Byte} {i : Instr} (nop : Byte)
    (h : decodeHost code ops = .ok i) : encode nop i = hostRecord code ops := by
  unfold decodeHost at h
  split at h
  case h_1 => exact encode_of_operandsCfg h
  case h_4 | h_9 =>
    cases h
    rfl
  case h_8 | h_17 => exact encode_of_operands1List h fun _ _ => rfl
  case h_10 | h_13 | h_19 => exact encode_of_operands2 h fun _ _ => rfl
  case h_5 | h_14 | h_15 | h_16 | h_18 => exact encode_of_operands1 h fun _ => rfl
  case h_22 => cases h
  all_goals exact encode_of_operands0 h rfl

/-- A host command needs no operand check to survive: its layout in the encoder is the one the decoder reads. -/
theorem decode_encode_of_isHostCommand {i : Instr} (h : isHostCommand i) (nop : Byte) :
    decode (encode nop i) = .ok i := by
  cases i with
  | wRegister | rRegister | rRxPayload | wTxPayload | flushTxFrame | flushRxFrame =>
    exact nomatch (h : Space.framer = .host)
  | initialise cfg => cases cfg <;> rfl
  | _ => rfl

/-! ### Frames (R80) -/

section Frames

variable {c : Byte} {data : List Byte} {i j : Instr}

@[simp] theorem decode_frameRecord (c : Byte) (data : List Byte) :
    decode (frameRecord c data) = decodeFrame c data := rfl

theorem framed_of_lengthOk (h : lengthOk data.length = true) (c : Byte) (i : Instr) : framed c data i = .ok i :=
  if_pos h

theorem eq_of_framed (h : framed c data i = .ok j) : i = j := by
  unfold framed at h
  split at h
  · exact Except.ok.inj h
  · cases h

theorem eq_of_frameBare (h : frameBare c data i = .ok j) : data = [] ∧ i = j := by
  unfold frameBare at h
  split at h
  next hbare => exact ⟨hbare, Except.ok.inj h⟩
  next => cases h

/-- The top three bits of a register command set it apart from the four fixed command bytes. -/
theorem ne_fixedCommands_of_register (h : c.extractLsb' 5 3 = 0b001#3 ∨ c.extractLsb' 5 3 = 0b000#3) :
    c ≠ Config.cmdRRxPayload ∧ c ≠ Config.cmdWTxPayload ∧ c ≠ Config.cmdFlushTx ∧ c ≠ Config.cmdFlushRx := by
  refine ⟨?_, ?_, ?_, ?_⟩ <;> rintro rfl <;> exact absurd h (by decide)

/-- W_REGISTER (R81). -/
theorem decodeFrame_wRegister (addr : BitVec 5) (data : List Byte) :
    decodeFrame (0b001#3 ++ addr) data = framed (0b001#3 ++ addr) data (.wRegister addr data) := by
  have hpattern : (0b001#3 ++ addr : Byte).extractLsb' 5 3 = 0b001#3 := BitVec.extractLsb'_append_eq_left
  have haddr : (0b001#3 ++ addr : Byte).extractLsb' 0 5 = addr := BitVec.extractLsb'_append_eq_right
  obtain ⟨h1, h2, h3, h4⟩ := ne_fixedCommands_of_register (.inl hpattern)
  rw [decodeFrame, if_neg h1, if_neg h2, if_neg h3, if_neg h4, if_pos hpattern, haddr]

/-- R_REGISTER (R82). -/
theorem decodeFrame_rRegister (addr : BitVec 5) (data : List Byte) :
    decodeFrame (0b000#3 ++ addr) data = framed (0b000#3 ++ addr) data (.rRegister addr data.length) := by
  have hpattern : (0b000#3 ++ addr : Byte).extractLsb' 5 3 = 0b000#3 := BitVec.extractLsb'_append_eq_left
  have haddr : (0b000#3 ++ addr : Byte).extractLsb' 0 5 = addr := BitVec.extractLsb'_append_eq_right
  have hnotWrite : (0b000#3 ++ addr : Byte).extractLsb' 5 3 ≠ 0b001#3 := by
    rw [hpattern]
    decide
  obtain ⟨h1, h2, h3, h4⟩ := ne_fixedCommands_of_register (.inr hpattern)
  rw [decodeFrame, if_neg h1, if_neg h2, if_neg h3, if_neg h4, if_neg hnotWrite, if_pos hpattern, haddr]

/-- R_RX_PAYLOAD (R83). -/
theorem decodeFrame_rRxPayload (data : List Byte) :
    decodeFrame 0b01100001#8 data = framed 0b01100001#8 data (.rRxPayload data.length) := rfl

/-- W_TX_PAYLOAD (R83). -/
theorem decodeFrame_wTxPayload (data : List Byte) :
    decodeFrame 0b10100000#8 data = framed 0b10100000#8 data (.wTxPayload data) := rfl

/-- A frame survives where its data length is one that frames have (R57, R80). -/
theorem decode_encode_of_not_isHostCommand (h : ¬isHostCommand i) (hlength : i.wellFormed = true) (nop : Byte) :
    decode (encode nop i) = .ok i := by
  cases i with
  | wRegister addr data =>
    rw [encode, decode_frameRecord, decodeFrame_wRegister]
    exact framed_of_lengthOk hlength _ _
  | rRegister addr n =>
    rw [encode, decode_frameRecord, decodeFrame_rRegister, List.length_replicate]
    exact framed_of_lengthOk (by rwa [List.length_replicate]) _ _
  | rRxPayload n =>
    rw [encode, decode_frameRecord, decodeFrame_rRxPayload, List.length_replicate]
    exact framed_of_lengthOk (by rwa [List.length_replicate]) _ _
  | wTxPayload payload =>
    rw [encode, decode_frameRecord, decodeFrame_wTxPayload]
    exact framed_of_lengthOk hlength _ _
  | flushTxFrame | flushRxFrame => rfl
  | initialise cfg => cases cfg <;> exact absurd rfl h
  | _ => exact absurd rfl h

/-- All a frame can decode to, pattern by pattern of R80. -/
theorem decodeFrame_cases (h : decodeFrame c data = .ok i) :
    (∃ addr, c = 0b001#3 ++ addr ∧ i = .wRegister addr data) ∨
    (∃ addr, c = 0b000#3 ++ addr ∧ i = .rRegister addr data.length) ∨
    (c = 0x61 ∧ i = .rRxPayload data.length) ∨
    (c = 0xA0 ∧ i = .wTxPayload data) ∨
    (c = 0xE1 ∧ data = [] ∧ i = .flushTxFrame) ∨
    (c = 0xE2 ∧ data = [] ∧ i = .flushRxFrame) := by
  have hsplit : c.extractLsb' 5 3 ++ c.extractLsb' 0 5 = c := BitVec.extractLsb'_append_extractLsb'
  unfold decodeFrame at h
  split_ifs at h with hrx htx hflushTx hflushRx hwrite hread
  · exact .inr (.inr (.inl ⟨hrx, (eq_of_framed h).symm⟩))
  · exact .inr (.inr (.inr (.inl ⟨htx, (eq_of_framed h).symm⟩)))
  · obtain ⟨hbare, hi⟩ := eq_of_frameBare h
    exact .inr (.inr (.inr (.inr (.inl ⟨hflushTx, hbare, hi.symm⟩))))
  · obtain ⟨hbare, hi⟩ := eq_of_frameBare h
    exact .inr (.inr (.inr (.inr (.inr ⟨hflushRx, hbare, hi.symm⟩))))
  · rw [hwrite] at hsplit
    exact .inl ⟨_, hsplit.symm, (eq_of_framed h).symm⟩
  · rw [hread] at hsplit
    exact .inr (.inl ⟨_, hsplit.symm, (eq_of_framed h).symm⟩)

end Frames

end Sys2Proof

/-! SUPPORT. The obligations of 30_encoding.md. -/

namespace Sys2Proof.Machine

open Sys2Proof.Safety

/-- Settles O2: a host command's layout is read as it is written, and a frame's well-formedness is the length that its
decoding tests. -/
theorem decodeOfEncodedInstruction : Obligations.DecodeOfEncodedInstruction := by
  unfold Obligations.DecodeOfEncodedInstruction
  intro nop i hlength
  by_cases hhost : isHostCommand i
  · exact decode_encode_of_isHostCommand hhost nop
  · exact decode_encode_of_not_isHostCommand hhost hlength nop

/-- Settles O3: an empty record decodes to nothing, and any other is read by its code's row. -/
theorem decodedHostRecordIsItsEncoding : Obligations.DecodedHostRecordIsItsEncoding := by
  unfold Obligations.DecodedHostRecordIsItsEncoding
  intro nop bytes i h
  cases bytes with
  | nil => cases h
  | cons code ops => exact encode_of_decodeHost nop h

/-- Settles O4: a write keeps its data, and a read's data, all filler bytes, are given back by their number. -/
theorem decodedFrameIsItsEncoding : Obligations.DecodedFrameIsItsEncoding := by
  unfold Obligations.DecodedFrameIsItsEncoding
  intro nop c data i h hfiller
  obtain ⟨addr, rfl, rfl⟩ | ⟨addr, rfl, rfl⟩ | ⟨rfl, rfl⟩ | ⟨rfl, rfl⟩ | ⟨rfl, rfl, rfl⟩ | ⟨rfl, rfl, rfl⟩ :=
    decodeFrame_cases h
  · rfl
  · have hdata := List.eq_replicate_of_mem (hfiller (.inl (Laws.FirstByte.pattern_bits addr).2))
    rw [encode, ← hdata]
    rfl
  · have hdata := List.eq_replicate_of_mem (hfiller (.inr rfl))
    rw [encode, ← hdata]
    rfl
  · rfl
  · rfl
  · rfl

/-- Settles O1: eleven records, each read by the one row of the two code tables that it was written out from. -/
theorem tableBytesDecode : Obligations.TableBytesDecode := by
  unfold Obligations.TableBytesDecode
  exact ⟨rfl, rfl, rfl, rfl, rfl, rfl, rfl, rfl, rfl, rfl, rfl⟩

theorem State.fetch_of_port {s : State} {r : Record} {later : List Record} (h : s.port = r :: later) :
    s.fetch = some (r, { s with port := later }) := by
  simp only [State.fetch, h]

/-- Settles O5: with no command running a step fetches the next record, and runs what it decodes to. -/
theorem stepRunsDecodedInstruction : Obligations.StepRunsDecodedInstruction := by
  unfold Obligations.StepRunsDecodedInstruction
  intro s r later i hidle hport hdecode
  simp only [step, hidle, State.fetch_of_port hport, hdecode]

end Sys2Proof.Machine

/-! SUPPORT. Where the bus stands along an action, and that every step keeps the bus protocol: an action is a path
between two positions of the bus, whose frames are legal by the bytes the framer composes. -/

namespace Sys2Proof.Machine

open Sys2Proof.Safety

/-! ### Data lengths (R57) -/

theorem lengthOk_of_bounds {n : Nat} (hlow : 1 ≤ n) (hhigh : n ≤ 32) : lengthOk n = true := by
  simp [lengthOk, hlow, hhigh]

theorem not_lengthOk {n : Nat} (h : n = 0 ∨ 32 < n) : ¬lengthOk n = true := by
  simp only [lengthOk, Bool.and_eq_true, decide_eq_true_eq]
  omega

/-! ### The frames the block composes are legal (R81 to R84, R133) -/

theorem frameLegal_writeCommand (nop addr : Byte) (v : List Byte) :
    frameLegal nop (writeCommand addr :: v) = lengthOk v.length := by
  have hpattern : ∀ a : Byte, writeCommand a ≠ 0xE1#8 ∧ writeCommand a ≠ 0xE2#8 ∧ writeCommand a ≠ 0x61#8 ∧
      writeCommand a &&& 0xE0#8 = 0x20#8 := by decide
  obtain ⟨h1, h2, h3, hwrite⟩ := hpattern addr
  simp [frameLegal, h1, h2, h3, hwrite]

theorem frameLegal_readCommand (nop addr : Byte) (n : Nat) :
    frameLegal nop (readCommand addr :: List.replicate n nop) = lengthOk n := by
  have hpattern : ∀ a : Byte, readCommand a ≠ 0xE1#8 ∧ readCommand a ≠ 0xE2#8 ∧
      readCommand a &&& 0xE0#8 = 0x00#8 := by decide
  obtain ⟨h1, h2, hread⟩ := hpattern addr
  simp [frameLegal, h1, h2, hread]

theorem frameLegal_readRxPayload (nop : Byte) (n : Nat) :
    frameLegal nop (Config.cmdRRxPayload :: List.replicate n nop) = lengthOk n := by
  simp [frameLegal, Config.cmdRRxPayload]

theorem frameLegal_writeTxPayload (nop : Byte) (payload : List Byte) :
    frameLegal nop (Config.cmdWTxPayload :: payload) = lengthOk payload.length := by
  simp [frameLegal, Config.cmdWTxPayload]

/-! ### Positions of the bus -/

theorem busRun_append (nop : Byte) (b : Bus) (first later : List Event) :
    busRun nop b (first ++ later) = (busRun nop b first).bind fun b' => busRun nop b' later := by
  induction first generalizing b with
  | nil => rfl
  | cons e first ih =>
    simp only [List.cons_append, busRun]
    cases busStep nop b e with
    | none => rfl
    | some b' => exact ih b'

/-- A legal frame takes an open session back to where it was, or to the failure its answer is (R120, R142). -/
theorem busRun_frame {nop : Byte} {tx : List Byte} (legal : frameLegal nop tx = true) (e : Env) :
    busRun nop .held [.setCSN .low, .xfer tx (e.answer tx).1, .setCSN .high] =
      some (if (e.answer tx).1 = .short then .failed else .held) := by
  have hfits : answerFits tx (e.answer tx).1 = true := by
    cases hanswer : (e.answer tx).1 with
    | ok rx => simpa [answerFits] using transferAnswersInFull e _ tx rx (Prod.ext hanswer rfl)
    | short => rfl
  simp only [busRun, busStep, legal, hfits]
  cases (e.answer tx).1 <;> rfl

/-- The trace of `s` has brought the bus to `b`, which `st.inSession` agrees with. With it goes the length of a cached
pipe-0 address, which RECEIVER_MODE sends (R152), and the filler byte of reads. -/
structure OnBus (nop : Byte) (b : Bus) (s : State) : Prop where
  filler : s.params.nopByte = nop
  run : busRun nop .closed s.trace = some b
  session : s.inSession = (b != .closed)
  pipe0 : s.p0.present = true → lengthOk s.p0.addr.length = true

section Positions

variable {nop : Byte} {b b' : Bus} {s t : State}

/-- Events more take the bus on from where it stands. -/
theorem OnBus.emits (h : OnBus nop b s) (events : List Event) (hrun : busRun nop b events = some b')
    (htrace : t.trace = s.trace ++ events) (hsession : t.inSession = (b' != .closed))
    (hparams : t.params = s.params := by rfl) (hp0 : t.p0 = s.p0 := by rfl) : OnBus nop b' t where
  filler := by rw [hparams, h.filler]
  run := by rw [htrace, busRun_append, h.run, Option.bind_some, hrun]
  session := hsession
  pipe0 := by rw [hp0]; exact h.pipe0

theorem OnBus.openSession (h : OnBus nop .closed s) : OnBus nop .held s.openSession :=
  h.emits [_] rfl rfl rfl

theorem OnBus.closeSession (h : OnBus nop b s) (hb : b = .held ∨ b = .failed) : OnBus nop .closed s.closeSession := by
  obtain rfl | rfl := hb
  · exact h.emits [_] rfl rfl rfl
  · exact h.emits [_] rfl rfl rfl

theorem OnBus.driveCE (h : OnBus nop .held s) (l : Level) : OnBus nop .held (s.driveCE l) :=
  h.emits [_] rfl rfl h.session

theorem OnBus.driveCSN_high (h : OnBus nop .held s) : OnBus nop .held (s.driveCSN .high) :=
  h.emits [_] rfl rfl h.session

theorem OnBus.waited (h : OnBus nop .held s) (bound : Nat) : OnBus nop .held (s.waited bound) :=
  h.emits [_] rfl rfl h.session

theorem OnBus.framed (h : OnBus nop .held s) {tx : List Byte} (legal : frameLegal nop tx = true) :
    OnBus nop (if (s.env.answer tx).1 = .short then .failed else .held) (s.framed tx) := by
  refine h.emits _ (busRun_frame legal s.env) rfl ?_
  rw [State.framed_inSession, h.session]
  split <;> rfl

theorem OnBus.withMode (h : OnBus nop b s) (m : Mode) : OnBus nop b (s.withMode m) := { h with }

theorem OnBus.withCfg (h : OnBus nop b s) (c : Cfg) : OnBus nop b (s.withCfg c) := { h with }

theorem OnBus.withStatus (h : OnBus nop b s) (v : Byte) : OnBus nop b (s.withStatus v) := { h with }

theorem OnBus.withPhase (h : OnBus nop b s) (p : Phase) : OnBus nop b (s.withPhase p) := { h with }

theorem OnBus.ended (h : OnBus nop b s) (code : ResultCode) (r : Reply) : OnBus nop b (s.ended code r) := { h with }

/-- INITIALISE's commit may drop a cached address, and writes none (R145). -/
theorem OnBus.committed (h : OnBus nop b s) (c : CfgRecord) : OnBus nop b (s.committed c) where
  filler := h.filler
  run := h.run
  session := h.session
  pipe0 := by
    rw [State.committed_p0]
    split
    · exact nofun
    · exact h.pipe0

theorem OnBus.cacheP0 (h : OnBus nop b s) {a : List Byte} (hlength : lengthOk a.length = true) :
    OnBus nop b (s.cacheP0 a) :=
  { h with pipe0 := fun _ => hlength }

/-- The exit actions release the session that a failing frame leaves open (R224). -/
theorem OnBus.raised (h : OnBus nop .failed s) (e : ResultCode) : OnBus nop .closed (s.raised e) := by
  rw [State.raised_open h.session]
  exact (h.closeSession (.inr rfl)).ended e .none

theorem OnBus.busProtocol (h : OnBus nop b s) (hb : b = .closed ∨ b = .held) : BusProtocol s := by
  unfold BusProtocol
  rw [h.filler, h.run, h.session]
  obtain rfl | rfl := hb <;> rfl

end Positions

/-! ### Actions as paths of the bus -/

/-- The action takes the bus from `p` to where its value says; what it raises, it raises after a failing frame. -/
def Act.Follows {α : Type} (nop : Byte) (p : Bus) (q : α → Bus) (x : Act α) : Prop :=
  ∀ s, OnBus nop p s → match x s with
    | .ok v t => OnBus nop (q v) t
    | .error _ t => OnBus nop .failed t

/-- The action stays inside an open session, unless a frame fails. -/
abbrev Act.Holds {α : Type} (nop : Byte) (x : Act α) : Prop := x.Follows nop .held fun _ => .held

section Paths

variable {α β : Type} {nop : Byte} {p : Bus} {q : α → Bus} {r : β → Bus} {x : Act α} {f : α → Act β}

theorem follows_pure (v : α) (hv : q v = p := by rfl) : Act.Follows nop p q (pure v) := by
  subst hv
  exact fun _ hs => hs

theorem follows_act {g : State → State} {p' : Bus} (h : ∀ s, OnBus nop p s → OnBus nop p' (g s)) :
    Act.Follows nop p (fun _ => p') (act g) := h

theorem follows_bind (hx : Act.Follows nop p q x) (hf : ∀ v, Act.Follows nop (q v) r (f v)) :
    Act.Follows nop p r (x >>= f) := by
  intro s hs
  have hfirst := hx s hs
  rw [bind_run]
  cases hxs : x s with
  | ok v t => rw [hxs] at hfirst; exact hf v t hfirst
  | error e t => rw [hxs] at hfirst; exact hfirst

/-- What holds of both kinds of end on the bus holds of the state computed from the action's end. -/
theorem Act.Follows.end_of (hx : Act.Follows nop p q x) {s : State} (hs : OnBus nop p s) {P : State → Prop}
    {f : EStateM.Result ResultCode State α → State} (hok : ∀ v t, OnBus nop (q v) t → P (f (.ok v t)))
    (herror : ∀ e t, OnBus nop .failed t → P (f (.error e t))) : P (f (x s)) := by
  have hend := hx s hs
  cases hxs : x s with
  | ok v t => rw [hxs] at hend; exact hok v t hend
  | error e t => rw [hxs] at hend; exact herror e t hend

/-- What is read from the state is what holds of it on the bus. -/
theorem follows_look {g : State → α} (h : ∀ s, OnBus nop p s → Act.Follows nop p r (f (g s))) :
    Act.Follows nop p r (look g >>= f) :=
  fun s hs => h s hs s hs

theorem follows_filler {f : Byte → Act β} (h : Act.Follows nop p r (f nop)) :
    Act.Follows nop p r (look (·.params.nopByte) >>= f) :=
  follows_look fun s hs => by rwa [hs.filler]

theorem holds_onlyIf {c : Bool} {y : Act Unit} (h : c = true → Act.Holds nop y) : Act.Holds nop (onlyIf c y) := by
  cases c with
  | true => exact h rfl
  | false => exact follows_pure ()

/-! ### The framer primitives, the poll and the session -/

theorem holds_frame {tx : List Byte} (legal : frameLegal nop tx = true) : Act.Holds nop (frame tx) := by
  intro s hs
  have hframed := hs.framed legal
  rw [frame_run]
  cases hanswer : (s.env.answer tx).1 with
  | ok rx => rw [hanswer, if_neg nofun] at hframed; exact hframed
  | short => rw [hanswer, if_pos rfl] at hframed; exact hframed

theorem holds_writeReg (addr : Byte) {v : List Byte} (hlength : lengthOk v.length = true) :
    Act.Holds nop (writeReg addr v) :=
  follows_bind (holds_frame ((frameLegal_writeCommand nop addr v).trans hlength)) fun _ => follows_pure _

theorem holds_writeReg_one (addr b : Byte) : Act.Holds nop (writeReg addr [b]) := holds_writeReg addr rfl

theorem holds_readRegs (addr : Byte) {n : Nat} (hlength : lengthOk n = true) : Act.Holds nop (readRegs addr n) :=
  follows_filler <| follows_bind (holds_frame ((frameLegal_readCommand nop addr n).trans hlength)) fun _ => follows_pure _

theorem holds_readReg (addr : Byte) : Act.Holds nop (readReg addr) :=
  follows_filler <| follows_bind (holds_frame (frameLegal_readCommand nop addr 1)) fun _ => follows_pure _

theorem holds_readRxPayload {n : Nat} (hlength : lengthOk n = true) : Act.Holds nop (readRxPayload n) :=
  follows_filler <| follows_bind (holds_frame ((frameLegal_readRxPayload nop n).trans hlength)) fun _ => follows_pure _

theorem holds_writeTxPayload {payload : List Byte} (hlength : lengthOk payload.length = true) :
    Act.Holds nop (writeTxPayload payload) :=
  follows_bind (holds_frame ((frameLegal_writeTxPayload nop payload).trans hlength)) fun _ => follows_pure _

theorem holds_flushTxFifo : Act.Holds nop flushTxFifo := follows_bind (holds_frame rfl) fun _ => follows_pure _

theorem holds_flushRxFifo : Act.Holds nop flushRxFifo := follows_bind (holds_frame rfl) fun _ => follows_pure _

theorem holds_driveCE (l : Level) : Act.Holds nop (act (·.driveCE l)) := follows_act fun _ hs => hs.driveCE l

theorem holds_waited (bound : Nat) : Act.Holds nop (act (·.waited bound)) := follows_act fun _ hs => hs.waited bound

theorem follows_withMode (m : Mode) : Act.Follows nop p (fun _ => p) (act (·.withMode m)) :=
  follows_act fun _ hs => hs.withMode m

theorem holds_poll : Act.Holds nop poll := by
  have hclear : ∀ v mask, Act.Holds nop (clearLatch v mask) := fun _ _ => holds_onlyIf fun _ => holds_writeReg_one _ _
  exact follows_bind (holds_readReg _) fun v =>
    follows_bind (follows_act fun _ hs => hs.withStatus v) fun _ =>
    follows_bind (hclear v _) fun _ => follows_bind (hclear v _) fun _ => follows_bind (hclear v _) fun _ =>
    follows_pure _

/-- The action is a whole number of sessions: it starts and ends with none open (R140). -/
abbrev Act.Closes {α : Type} (nop : Byte) (x : Act α) : Prop := x.Follows nop .closed fun _ => .closed

theorem closes_inOneSession (hx : Act.Holds nop x) : Act.Closes nop (inOneSession x) :=
  follows_bind (follows_act fun _ hs => hs.openSession) fun _ =>
  follows_bind hx fun _ =>
  follows_bind (follows_act fun _ hs => hs.closeSession (.inl rfl)) fun _ => follows_pure _

/-! ### The sequences of the commands -/

theorem closes_initialiseSequence (c : CfgRecord) : Act.Closes nop (initialiseSequence c) := by
  have hw : ∀ addr b, Act.Holds nop (writeReg addr [b]) := holds_writeReg_one
  have hstart : Act.Closes nop (inOneSession _) := closes_inOneSession <|
    follows_bind (holds_waited Config.tPor) fun _ =>
    follows_bind (holds_driveCE .low) fun _ =>
    follows_bind (holds_waited Config.tCeCsn) fun _ =>
    follows_bind (follows_act fun _ hs => hs.driveCSN_high) fun _ =>
    follows_bind (hw Config.regConfig 0x0E) fun _ =>
    follows_bind (holds_waited Config.tXtal) fun _ =>
    follows_bind (hw Config.regEnAa 0x3F) fun _ =>
    follows_bind (hw Config.regSetupAw c.aw) fun _ =>
    follows_bind (hw Config.regSetupRetr (c.ard ||| c.arc)) fun _ =>
    follows_bind (hw Config.regRfCh c.ch) fun _ =>
    follows_bind (hw Config.regRfSetup (c.dr ||| c.pwr)) fun _ =>
    follows_bind (hw Config.regFeature 0x05) fun _ =>
    follows_bind (hw Config.regDynpd (dynpdByte c.dyn)) fun _ =>
    follows_bind (hw Config.regStatus 0x70) fun _ =>
    follows_bind holds_flushTxFifo fun _ => holds_flushRxFifo
  exact follows_bind hstart fun _ => follows_bind (follows_withMode .standbyI) fun _ => follows_pure _

theorem closes_standbyAction (m : Mode) : Act.Closes nop (standbyAction m) := by
  have hsession : Act.Closes nop standbySequence := closes_inOneSession <|
    follows_bind (holds_readReg _) fun _ =>
    follows_bind (holds_writeReg_one _ _) fun _ =>
    follows_bind (holds_driveCE .low) fun _ =>
    follows_bind (holds_waited _) fun _ => follows_withMode .standbyI
  unfold standbyAction
  cases m == .rx with
  | true => exact hsession
  | false => exact follows_pure ()

theorem closes_leaveReceiver (m : Mode) : Act.Closes nop (leaveReceiver m) := by
  unfold leaveReceiver
  cases m == .rx with
  | true => exact follows_bind (closes_standbyAction m) fun _ => follows_act fun _ hs => hs.ended .ok .none
  | false => exact follows_pure ()

/-- SEND_PACKET's own step leaves its session open for the wait (R158). -/
theorem follows_sendSequence (m : Mode) {payload : List Byte} (hlength : lengthOk payload.length = true) :
    Act.Follows nop .closed (fun _ => .held) (sendSequence m payload) :=
  follows_bind (closes_leaveReceiver m) fun _ =>
  follows_bind (follows_act fun _ hs => hs.openSession) fun _ =>
  follows_bind (holds_writeTxPayload hlength) fun _ =>
  follows_bind (follows_act fun _ hs => (hs.driveCE .high).withMode .tx) fun _ =>
  follows_bind (holds_waited _) fun _ => follows_act fun _ hs => (hs.driveCE .low).withMode .standbyI

theorem closes_rxDestinationSequence (pipe : Byte) {a : List Byte} (hlength : lengthOk a.length = true) :
    Act.Closes nop (rxDestinationSequence pipe a) :=
  closes_inOneSession <|
    follows_bind (holds_writeReg _ hlength) fun _ =>
    follows_bind (holds_onlyIf fun _ => follows_act fun _ hs => hs.cacheP0 hlength) fun _ =>
    follows_bind (holds_readReg _) fun _ => holds_onlyIf fun _ => holds_writeReg_one _ _

theorem closes_payloadSizeSequence (pipe size : Byte) : Act.Closes nop (payloadSizeSequence pipe size) := by
  have hw : ∀ n, Act.Holds nop (writeReg (rxPwReg n) [size]) := fun n => holds_writeReg_one _ _
  refine closes_inOneSession ?_
  split
  · exact follows_bind (hw 0) fun _ => follows_bind (hw 1) fun _ => follows_bind (hw 2) fun _ =>
      follows_bind (hw 3) fun _ => follows_bind (hw 4) fun _ => hw 5
  · exact hw pipe

/-- Where a turn of the wait leaves the bus: with SEND_PACKET's result the session is closed (R154). -/
def WaitTurn.bus : WaitTurn → Bus
  | .finished _ => .closed
  | .again => .held

theorem follows_closeAndFinish (code : ResultCode) :
    Act.Follows nop .held WaitTurn.bus (act (·.closeSession) >>= fun _ => pure (.finished code)) :=
  follows_bind (follows_act fun _ hs => hs.closeSession (.inl rfl)) fun _ => follows_pure (WaitTurn.finished code)

theorem follows_giveUp (code : ResultCode) : Act.Follows nop .held WaitTurn.bus (giveUp code) :=
  follows_bind holds_flushTxFifo fun _ => follows_closeAndFinish code

theorem follows_waitTurn (i : Nat) : Act.Follows nop .held WaitTurn.bus (waitTurn i) := by
  refine follows_look fun s _ => ?_
  split
  · exact follows_giveUp .timeout
  · refine follows_bind holds_poll fun ⟨code, v⟩ => ?_
    dsimp only
    split
    · exact follows_closeAndFinish .ok
    · exact follows_giveUp .retryExhausted
    · exact follows_pure WaitTurn.again

end Paths

/-! ### Every step -/

section NextStates

variable {nop : Byte} {s : State}

theorem nextIn_busProtocol_runCommand {body : Act Reply} (hb : Act.Closes nop body) (hs : OnBus nop .closed s) :
    NextIn BusProtocol (runCommand s body) := by
  have hend : OnBus nop .closed (State.finish (body s)) :=
    hb.end_of hs (fun r _ hu => hu.ended .ok r) fun e _ hu => hu.raised e
  exact nextIn_next (hend.busProtocol (.inl rfl))

/-- A command that is one session and then its reply. -/
theorem nextIn_busProtocol_session {α : Type} {body : Act α} (reply : α → Reply) (hb : Act.Holds nop body)
    (hs : OnBus nop .closed s) : NextIn BusProtocol (runCommand s (inOneSession body >>= fun v => pure (reply v))) :=
  nextIn_busProtocol_runCommand (follows_bind (closes_inOneSession hb) fun _ => follows_pure _) hs

/-- RECEIVER_MODE restores the cached pipe-0 address, whose length is one that a frame may carry (R31, R152). -/
theorem nextIn_busProtocol_execReceiverMode (hs : OnBus nop .closed s) : NextIn BusProtocol (execReceiverMode s) :=
  nextIn_hostCommand <| nextIn_busProtocol_session (fun _ => .none) (hs := hs) <|
    follows_bind (holds_readReg _) fun _ =>
    follows_bind (holds_onlyIf fun _ => holds_writeReg_one _ _) fun _ =>
    follows_look fun _ hread =>
    follows_bind (holds_onlyIf fun hpresent => holds_writeReg _ (hread.pipe0 hpresent)) fun _ =>
    follows_bind (holds_driveCE .high) fun _ =>
    follows_bind (holds_waited _) fun _ => follows_withMode .rx

theorem nextIn_busProtocol_execSendPacket (payload : List Byte) (hs : OnBus nop .closed s) :
    NextIn BusProtocol (execSendPacket payload s) := by
  refine nextIn_hostCommand (nextIn_dite (fun hlength => nextIn_next ?_) fun _ => nextIn_refused _)
  exact (follows_sendSequence s.mode hlength).end_of hs (f := State.startWait)
    (fun _ _ hu => (hu.withPhase _).busProtocol (.inr rfl)) fun e _ hu => (hu.raised e).busProtocol (.inl rfl)

theorem nextIn_busProtocol_stepWait (i : Nat) (hs : OnBus nop .held s) : NextIn BusProtocol (stepWait i s) := by
  refine nextIn_next ((follows_waitTurn i).end_of hs (fun turn _ hu => ?_) fun e _ hu =>
    (hu.raised e).busProtocol (.inl rfl))
  cases turn with
  | finished code => exact (hu.ended code .none).busProtocol (.inl rfl)
  | again => exact (hu.withPhase _).busProtocol (.inr rfl)

theorem nextIn_closed_frame {P : State → Prop} (h : s.inSession = false) (fits : Bool) (body : Act Reply) :
    NextIn P (framePrimitive s fits body) := by
  rw [framePrimitive_closed h]
  exact nextIn_refused _

/-- An address is 3 to 5 bytes wide (R20, R31). -/
theorem awb_bounds (hs : BlockInv s) : 3 ≤ s.awb.toNat ∧ s.awb.toNat ≤ 5 := by
  obtain ⟨haw, -⟩ := hs.cache
  have hwidth := hs.width
  have hpositive : s.cfg.aw.toNat ≠ 0 := fun h => haw (BitVec.eq_of_toNat_eq h)
  omega

theorem lengthOk_address (hs : BlockInv s) {n : Nat} (hn : n = s.awb.toNat ∨ n = 1) : lengthOk n = true := by
  have hawb := awb_bounds hs
  exact lengthOk_of_bounds (by omega) (by omega)

theorem addressBytes_cases (awb : BitVec 3) (pipe : Byte) :
    addressBytes awb pipe = awb.toNat ∨ addressBytes awb pipe = 1 := by
  unfold addressBytes
  split
  · exact .inl rfl
  · exact .inr rfl

/-- The bytes taken from an address buffer that is long enough are as many as a frame may carry. -/
theorem lengthOk_take (hs : BlockInv s) {n : Nat} (hn : n = s.awb.toNat ∨ n = 1) {addr : List Byte}
    (hlength : ¬addr.length < n) : lengthOk (addr.take n).length = true := by
  rw [List.length_take_of_le (Nat.le_of_not_lt hlength)]
  exact lengthOk_address hs hn

theorem exec_busProtocol (hs : BlockInv s) (hbus : OnBus nop .closed s) (i : Instr) :
    NextIn BusProtocol (exec i s) := by
  have hparam : NextIn BusProtocol (parameterError s) := nextIn_next ((hbus.ended _ _).busProtocol (.inl rfl))
  have hw : ∀ addr b, Act.Holds nop (writeReg addr [b]) := holds_writeReg_one
  cases i with
  | wRegister | rRegister | rRxPayload | wTxPayload | flushTxFrame | flushRxFrame =>
    exact nextIn_closed_frame hbus.session _ _
  | initialise cfg =>
    exact nextIn_hostCommand (nextIn_ite
      (nextIn_busProtocol_runCommand (closes_initialiseSequence _) (hbus.committed _)) hparam)
  | standbyMode =>
    exact nextIn_hostCommand
      (nextIn_busProtocol_runCommand (follows_bind (closes_standbyAction _) fun _ => follows_pure _) hbus)
  | receiverMode => exact nextIn_busProtocol_execReceiverMode hbus
  | sendPacket payload => exact nextIn_busProtocol_execSendPacket payload hbus
  | readPacket size =>
    exact nextIn_hostCommand (nextIn_dite
      (fun hlength => nextIn_busProtocol_session .bytes (holds_readRxPayload hlength) hbus) fun _ => nextIn_refused _)
  | isPacket | checkStatusIrq =>
    exact nextIn_hostCommand (nextIn_busProtocol_runCommand
      (follows_bind (closes_inOneSession holds_poll) fun ⟨_, _⟩ => follows_pure _) hbus)
  | rxDestination pipe addr =>
    exact nextIn_hostCommand <| nextIn_ite hparam <| nextIn_ite (nextIn_refused _) <|
      nextIn_dite (fun _ => nextIn_refused _) fun hlength => nextIn_busProtocol_runCommand
        (follows_bind (closes_rxDestinationSequence pipe (lengthOk_take hs (addressBytes_cases _ _) hlength))
          fun _ => follows_pure _) hbus
  | txDestination addr =>
    refine nextIn_hostCommand (nextIn_dite (fun _ => nextIn_refused _) fun hlength => ?_)
    have htake := lengthOk_take hs (.inl rfl) hlength
    exact nextIn_busProtocol_session (fun _ => .none)
      (follows_bind (holds_writeReg _ htake) fun _ => holds_writeReg _ htake) hbus
  | payloadSize pipe size =>
    exact nextIn_hostCommand (nextIn_ite (nextIn_busProtocol_runCommand
      (follows_bind (closes_payloadSizeSequence pipe size) fun _ => follows_pure _) hbus) hparam)
  | dynPayloadsEnable =>
    exact nextIn_hostCommand (nextIn_busProtocol_session (fun _ => .none)
      (follows_bind (hw _ _) fun _ => hw _ _) (hbus.withCfg _))
  | dynPayloadsDisable =>
    exact nextIn_hostCommand (nextIn_busProtocol_session (fun _ => .none) (hw _ _) (hbus.withCfg _))
  | autoRetransmission | rfChannel | rfDataRate | rfPower =>
    exact nextIn_hostCommand
      (nextIn_ite (nextIn_busProtocol_session (fun _ => .none) (hw _ _) (hbus.withCfg _)) hparam)
  | writeRegister addr data =>
    exact nextIn_hostCommand (nextIn_dite (fun hlength => nextIn_busProtocol_session (fun _ => .none)
      (holds_writeReg addr hlength) hbus) fun _ => nextIn_refused _)
  | readRegisterByte addr => exact nextIn_hostCommand (nextIn_busProtocol_session .byte (holds_readReg addr) hbus)
  | readRegisterBytes addr n =>
    exact nextIn_hostCommand (nextIn_dite (fun hlength => nextIn_busProtocol_session .bytes
      (holds_readRegs addr hlength) hbus) fun _ => nextIn_refused _)
  | flushTx => exact nextIn_hostCommand (nextIn_busProtocol_session (fun _ => .none) holds_flushTxFifo hbus)
  | flushRx => exact nextIn_hostCommand (nextIn_busProtocol_session (fun _ => .none) holds_flushRxFifo hbus)

/-- Between steps the two invariants place the bus. -/
theorem onBus_of_busProtocol (hs : BlockInv s) (hbus : BusProtocol s) :
    OnBus s.params.nopByte (if s.inSession then .held else .closed) s where
  filler := rfl
  run := hbus
  session := by cases s.inSession <;> rfl
  pipe0 := fun hpresent => lengthOk_address hs (.inl (hs.pipe0 hpresent))

end NextStates

/-- Settles O11: between two commands the bus is closed, and an instruction is a path from there; during the wait a
session is open, and a turn is a path from there. -/
theorem stepKeepsBusProtocol : Obligations.StepKeepsBusProtocol := by
  unfold Obligations.StepKeepsBusProtocol
  intro s t hs hbus hstep
  have hon := onBus_of_busProtocol hs hbus
  obtain ⟨i, hwaits, hturn⟩ | ⟨-, -, rfl⟩ | ⟨_, later, i, hidle, -, -, hexec⟩ := step_next_cases hstep
  · have hopen : s.inSession = true := hs.session.mpr (by rw [hwaits]; nofun)
    rw [hopen] at hon
    exact nextIn_busProtocol_stepWait i hon t hturn
  · exact hbus
  · have hclosed : s.inSession = false := Bool.eq_false_iff.mpr fun hopen => hs.session.mp hopen hidle
    rw [hclosed] at hon
    have htaken : BlockInv { s with port := later } := { hs with }
    exact exec_busProtocol htaken { hon with } i t hexec

end Sys2Proof.Machine

/-! SUPPORT. The obligations of 40_framer.md: each framer primitive is one frame of the bytes its rule gives, and run as
an instruction or in a session of its own it does what that one frame does. -/

namespace Sys2Proof.Machine

open Sys2Proof.Safety

/-! ### The primitives as their frames (R121 to R127) -/

/-- Run in `s`, the action is the frame `tx` and returns `value` of the bytes received. -/
def Act.IsFrame {α : Type} (x : Act α) (s : State) (tx : List Byte) (value : List Byte → α) : Prop :=
  x s = (frame tx >>= fun rx => pure (value rx)) s

section Primitives

variable {α β : Type} {x : Act α} {s : State} {tx : List Byte} {value : List Byte → α}

theorem isFrame_writeReg (addr : Byte) (v : List Byte) (s : State) :
    (writeReg addr v).IsFrame s (((addr &&& 0x1F) ||| 0x20) :: v) fun _ => () := rfl

theorem isFrame_readReg (addr : Byte) (s : State) :
    (readReg addr).IsFrame s [addr &&& 0x1F, s.params.nopByte] fun rx => rx.getD 1 0 := rfl

theorem isFrame_readRegs (addr : Byte) (n : Nat) (s : State) :
    (readRegs addr n).IsFrame s ((addr &&& 0x1F) :: List.replicate n s.params.nopByte) fun rx => rx.drop 1 := rfl

theorem isFrame_writeTxPayload (payload : List Byte) (s : State) :
    (writeTxPayload payload).IsFrame s (0xA0 :: payload) fun _ => () := rfl

theorem isFrame_readRxPayload (n : Nat) (s : State) :
    (readRxPayload n).IsFrame s (0x61 :: List.replicate n s.params.nopByte) fun rx => rx.drop 1 := rfl

theorem isFrame_flushTxFifo (s : State) : flushTxFifo.IsFrame s [0xE1] fun _ => () := rfl

theorem isFrame_flushRxFifo (s : State) : flushRxFifo.IsFrame s [0xE2] fun _ => () := rfl

/-- The command byte of a register frame whose address has five bits is the pattern and the address (R81, R82). -/
theorem registerCommand_setWidth (a : BitVec 5) :
    (a.setWidth 8 &&& 0x1F) ||| 0x20 = (0b001#3 ++ a : Byte) ∧ a.setWidth 8 &&& 0x1F = (0b000#3 ++ a : Byte) := by
  revert a
  decide

/-! ### A frame as an instruction, and a session of one frame -/

/-- All a one-frame action can do: the state after the frame, with its value or with `BusError` (R120). -/
theorem Act.IsFrame.run (hx : x.IsFrame s tx value) :
    x s = match (s.env.answer tx).1 with
      | .ok rx => .ok (value rx) (s.framed tx)
      | .short => .error .busError (s.framed tx) := by
  rw [hx, bind_run, frame_run]
  cases (s.env.answer tx).1 <;> rfl

/-- A frame instruction in an open session with a legal length does its one frame (R120, R224). -/
theorem framePrimitive_isFrame (hopen : s.inSession = true) {fits : Bool} (hfits : fits = true) (reply : α → Reply)
    (hx : x.IsFrame s tx value) :
    framePrimitive s fits (x >>= fun v => pure (reply v)) = .next (afterFrame s tx fun rx => reply (value rx)) := by
  have hprimitive : framePrimitive s fits (x >>= fun v => pure (reply v)) =
      .next (State.returned ((x >>= fun v => pure (reply v)) s)) := by simp [framePrimitive, hopen, hfits]
  rw [hprimitive, bind_run, hx.run, afterFrame]
  rcases hanswer : s.env.answer tx with ⟨answer, later⟩
  cases answer with
  | ok rx => simp [State.returned, State.withReply, State.framed, frameEvents, hanswer]
  | short =>
    simp [State.returned, State.raised, State.closeSession, State.emit, State.ended, State.framed, frameEvents,
      hanswer, hopen]

/-- A command that is a session of one frame and then its reply (R140 to R142). -/
theorem runCommand_isFrame (reply : α → Reply) (hx : x.IsFrame s.openSession tx value) :
    runCommand s (inOneSession x >>= fun v => pure (reply v)) =
      .next (afterSession s [.send tx] (reply (value ((received s.env tx).getD [])))) := by
  rw [runCommand, bind_run, inOneSession_run, hx.run, State.openSession_env, afterSession, play, received]
  rcases hanswer : s.env.answer tx with ⟨answer, later⟩
  cases answer with
  | ok rx =>
    simp [State.finish, State.closeSession, State.emit, State.ended, State.framed, State.openSession, frameEvents, play,
      hanswer]
  | short =>
    simp [State.finish, State.raised, State.closeSession, State.emit, State.ended, State.framed, State.openSession,
      frameEvents, hanswer]

end Primitives

/-! ### Frames as instructions -/

/-- Settles O20: each is its primitive's one frame, and nothing but the exit actions follows a short answer. -/
theorem writeFrameEffect : Obligations.WriteFrameEffect := by
  unfold Obligations.WriteFrameEffect
  intro s hopen
  constructor
  · intro a v hlow hhigh
    rw [← (registerCommand_setWidth a).1]
    exact framePrimitive_isFrame hopen (lengthOk_of_bounds hlow hhigh) (fun _ => .none) (isFrame_writeReg _ v s)
  · intro payload hlow hhigh
    exact framePrimitive_isFrame hopen (lengthOk_of_bounds hlow hhigh) (fun _ => .none)
      (isFrame_writeTxPayload payload s)

/-- Settles O21: each is its primitive's one frame, whose value is what follows the status echo. -/
theorem readFrameEffect : Obligations.ReadFrameEffect := by
  unfold Obligations.ReadFrameEffect
  intro s n hopen hlow hhigh
  have hlength := lengthOk_of_bounds hlow hhigh
  constructor
  · intro a
    rw [← (registerCommand_setWidth a).2]
    exact framePrimitive_isFrame hopen hlength .bytes (isFrame_readRegs _ n s)
  · exact framePrimitive_isFrame hopen hlength .bytes (isFrame_readRxPayload n s)

/-- Settles O22: each is its primitive's one-byte frame. -/
theorem flushFrameEffect : Obligations.FlushFrameEffect := by
  unfold Obligations.FlushFrameEffect
  intro s hopen
  exact ⟨framePrimitive_isFrame hopen rfl (fun _ => .none) (isFrame_flushTxFifo s),
    framePrimitive_isFrame hopen rfl (fun _ => .none) (isFrame_flushRxFifo s)⟩

/-! ### Raw register commands -/

theorem exec_writeRegister {s : State} (hidle : s.phase = .idle) (addr : Byte) (data : List Byte) :
    exec (.writeRegister addr data) s =
      if lengthOk data.length then runCommand s (inOneSession (writeReg addr data) >>= fun _ => pure .none)
      else .refused .dataLength :=
  hostCommand_idle hidle _

theorem exec_readRegisterBytes {s : State} (hidle : s.phase = .idle) (addr n : Byte) :
    exec (.readRegisterBytes addr n) s =
      if lengthOk n.toNat then runCommand s (inOneSession (readRegs addr n.toNat) >>= fun vs => pure (.bytes vs))
      else .refused .readCount :=
  hostCommand_idle hidle _

/-- Settles O23: a legal length gives a session of one write frame, any other the refusal. -/
theorem writeRegisterEffect : Obligations.WriteRegisterEffect := by
  unfold Obligations.WriteRegisterEffect
  intro s addr v hidle
  rw [exec_writeRegister hidle]
  constructor
  · intro hlow hhigh
    rw [if_pos (lengthOk_of_bounds hlow hhigh)]
    exact runCommand_isFrame (fun _ => .none) (isFrame_writeReg addr v _)
  · intro hlength
    rw [if_neg (not_lengthOk hlength)]

/-- Settles O24: a legal count gives a session of one read frame, whose value is the reply, any other the refusal. -/
theorem readRegisterEffect : Obligations.ReadRegisterEffect := by
  unfold Obligations.ReadRegisterEffect
  intro s addr hidle
  refine ⟨?_, fun n hlow hhigh => ?_, fun n hcount => ?_⟩
  · exact (hostCommand_idle hidle _).trans (runCommand_isFrame .byte (isFrame_readReg addr _))
  · rw [exec_readRegisterBytes hidle, if_pos (lengthOk_of_bounds hlow hhigh)]
    exact runCommand_isFrame .bytes (isFrame_readRegs addr n.toNat _)
  · rw [exec_readRegisterBytes hidle, if_neg (not_lengthOk hcount)]

/-- Settles O25: each is a session of its primitive's one-byte frame. -/
theorem flushCommandEffect : Obligations.FlushCommandEffect := by
  unfold Obligations.FlushCommandEffect
  intro s hidle
  exact ⟨(hostCommand_idle hidle _).trans (runCommand_isFrame (fun _ => .none) (isFrame_flushTxFifo _)),
    (hostCommand_idle hidle _).trans (runCommand_isFrame (fun _ => .none) (isFrame_flushRxFifo _))⟩

end Sys2Proof.Machine

/-! SUPPORT. The obligations of 41_sequencer.md: each command of the mode sequencer plays its list of items in one
session and enters a mode, SEND_PACKET up to its wait; and the pipe-0 address that RECEIVER_MODE writes back. -/

namespace Sys2Proof.Machine

open Sys2Proof.Safety

/-! ### Actions that play items and enter a mode -/

/-- Run in `s`, the action plays the items, and returns `v` where every frame is answered. -/
def Act.PlaysAt {α : Type} (x : Act α) (s : State) (items : List Item) (v : α) : Prop :=
  x s =
    if (play items s.env).complete then .ok v (s.observed (play items s.env))
    else .error .busError (s.observed (play items s.env))

/-- Run in `s`, the action plays the items, and writes the mode last, where every frame is answered (R21). -/
def Act.Enters (x : Act Unit) (s : State) (items : List Item) (m : Mode) : Prop :=
  x s =
    if (play items s.env).complete then .ok () ((s.observed (play items s.env)).withMode m)
    else .error .busError (s.observed (play items s.env))

section Entering

variable {α : Type} {x : Act α} {y : Act Unit} {f : α → Act Unit} {s : State} {a b items : List Item} {v : α}
  {m : Mode}

theorem observed_nil (s : State) : s.observed (play [] s.env) = s := by
  simp [play, State.observed, csnAfter, ceAfter]

/-- The state after one list of items and then another. -/
theorem observed_append (a b : List Item) (h : (play a s.env).complete = true) :
    s.observed (play (a ++ b) s.env) = (s.observed (play a s.env)).observed (play b (play a s.env).env) := by
  simp [play_append, h, State.observed, csnAfter_append, ceAfter_append]

theorem Act.Plays.playsAt (h : Act.Plays y items) (s : State) : y.PlaysAt s items () := h s

/-- One frame, with its value where it is answered (R120). -/
theorem Act.IsFrame.playsAt {tx : List Byte} {value : List Byte → α} (hx : x.IsFrame s tx value) :
    x.PlaysAt s [.send tx] (value ((received s.env tx).getD [])) := by
  rw [Act.PlaysAt, hx.run, play, received]
  rcases hanswer : s.env.answer tx with ⟨answer, later⟩
  cases answer <;>
    simp [play, State.observed, State.framed, frameEvents, hanswer, csnAfter, ceAfter]

theorem enters_withMode (m : Mode) (s : State) : Act.Enters (act (·.withMode m)) s [] m := by
  rw [Act.Enters, observed_nil]
  rfl

theorem enters_bind (hx : x.PlaysAt s a v) (hf : (f v).Enters (s.observed (play a s.env)) b m) :
    Act.Enters (x >>= f) s (a ++ b) m := by
  rw [Act.Enters, bind_run, hx]
  cases hcomplete : (play a s.env).complete with
  | true =>
    rw [observed_append a b hcomplete, play_append, if_pos hcomplete]
    exact hf
  | false => simp [play_append, hcomplete]

theorem enters_look {g : State → α} (hf : (f (g s)).Enters s items m) : Act.Enters (look g >>= f) s items m := hf

end Entering

/-! ### The levels that items leave (R34) -/

/-- A frame or a pause: CE stays, and CSN is high after it where it was before. -/
def isFrameOrPause : Item → Bool
  | .send _ | .pause _ => true
  | .ce _ | .csn _ => false

theorem framesAndPauses_levels {items : List Item} (hframes : items.all isFrameOrPause = true) (e : Env) (l : Level) :
    csnAfter (play items e).events .high = .high ∧ ceAfter (play items e).events l = l := by
  induction items generalizing e with
  | nil => exact ⟨rfl, rfl⟩
  | cons item later ih =>
    obtain ⟨hitem, hlater⟩ := Bool.and_eq_true_iff.mp hframes
    cases item with
    | send tx =>
      rw [play]
      rcases e.answer tx with ⟨answer, e'⟩
      cases answer with
      | ok rx => exact ih hlater e'
      | short => exact ⟨rfl, rfl⟩
    | pause bound => exact ih hlater e
    | ce l => cases hitem
    | csn l => cases hitem

/-- A frame first, and then frames and pauses (R120). -/
theorem frames_levels (tx : List Byte) {frames : List Item} (hframes : frames.all isFrameOrPause = true) (e : Env)
    (n l : Level) :
    csnAfter (play (.send tx :: frames) e).events n = .high ∧ ceAfter (play (.send tx :: frames) e).events l = l := by
  rw [play]
  rcases e.answer tx with ⟨answer, e'⟩
  cases answer with
  | ok rx => exact framesAndPauses_levels hframes e' l
  | short => exact ⟨rfl, rfl⟩

/-- Played from `s`, the items leave CSN high and CE at the level `l`. -/
def State.Levels (s : State) (items : List Item) (l : Level) : Prop :=
  csnAfter (play items s.env).events s.csn = .high ∧ ceAfter (play items s.env).events s.ce = l

/-- After the frames, a tail that no answer can stop: CE is as the tail leaves it where the frames are answered. -/
theorem frames_append_levels (s : State) (tx : List Byte) (frames : List Item) {tail : List Item} {l : Level}
    (hframes : frames.all isFrameOrPause = true)
    (htail : ∀ e c, (play tail e).complete = true ∧ csnAfter (play tail e).events .high = .high ∧
      ceAfter (play tail e).events c = l) :
    s.Levels (.send tx :: frames ++ tail) (if (play (.send tx :: frames ++ tail) s.env).complete then l else s.ce) := by
  obtain ⟨hcsn, hce⟩ := frames_levels tx hframes s.env s.csn s.ce
  obtain ⟨hcomplete, hcsn', hce'⟩ := htail (play (.send tx :: frames) s.env).env s.ce
  rw [State.Levels, play_append]
  cases hanswered : (play (.send tx :: frames) s.env).complete with
  | true => simp [csnAfter_append, ceAfter_append, hcsn, hce, hcsn', hce', hcomplete]
  | false => simp [hanswered, hcsn, hce]

/-! ### Sessions that enter a mode -/

section Sessions

variable {body : Act Unit} {s : State} {items : List Item} {m : Mode}

/-- The exit actions after items of which a frame failed (R224). -/
theorem raised_observed {l : Level} (hfailed : (play items s.env).complete = false)
    (hlevels : s.Levels items l) :
    (s.openSession.observed (play items s.env)).raised .busError = { afterSession s items .none with ce := l } := by
  obtain ⟨hcsn, hce⟩ := hlevels
  simp [State.raised, State.observed, State.openSession, State.closeSession, State.emit, State.ended, afterSession,
    hfailed, hcsn, hce]

/-- A command that is one session which enters a mode (R140 to R142). -/
theorem runCommand_enters {l : Level} (h : body.Enters s.openSession items m)
    (hlevels : s.Levels items l) :
    runCommand s (inOneSession body >>= fun _ => pure .none) = .next
      { afterSession s items .none with
        mode := if (play items s.env).complete then m else s.mode
        ce := l } := by
  rw [runCommand, bind_run, inOneSession_run, h, State.openSession_env]
  cases hcomplete : (play items s.env).complete with
  | true =>
    obtain ⟨hcsn, hce⟩ := hlevels
    simp [State.finish, State.observed, State.openSession, State.closeSession, State.emit, State.ended, State.withMode,
      afterSession, hcomplete, hcsn, hce]
  | false =>
    rw [if_neg Bool.false_ne_true, if_neg Bool.false_ne_true, State.finish, raised_observed hcomplete hlevels]
    rfl

/-- A mode written after the release is as one written before it. -/
theorem inOneSession_withMode (body : Act Unit) (m : Mode) :
    (inOneSession body >>= fun _ => act (·.withMode m) >>= fun _ => pure Reply.none) =
      inOneSession (body >>= fun _ => act (·.withMode m)) >>= fun _ => pure .none := by
  funext s
  simp only [bind_run, inOneSession_run]
  cases body s.openSession with
  | ok _ t => rfl
  | error e t => rfl

/-- The end of a command, with none running before it (R36). -/
theorem ended_idle (hidle : s.phase = .idle) (code : ResultCode) (r : Reply) :
    s.ended code r = { s with result := code, reply := r } := by
  rw [State.ended, ← hidle]

end Sessions

/-! ### INITIALISE -/

/-- R144's checks are the domains of R102. -/
theorem legalCfg_iff (c : CfgRecord) : legalCfg c = true ↔ cfgInDomain c := by
  simp [legalCfg, cfgInDomain, legalAw, legalCh, legalDr, legalPwr, legalArd, legalArc, legalDyn, and_assoc, or_assoc]

/-- A legal `aw` is its own width code, and the width in bytes is two more (R31). -/
theorem legalAw_code {c : CfgRecord} (legal : cfgInDomain c) :
    (c.aw.setWidth 2).toNat = c.aw.toNat ∧ widthBytes (c.aw.setWidth 2) = c.aw.setWidth 3 + 2 := by
  obtain ⟨haw, -⟩ := legal
  have hcases : c.aw = 1 ∨ c.aw = 2 ∨ c.aw = 3 := by simpa using haw
  obtain h | h | h := hcases <;> rw [h] <;> exact ⟨rfl, rfl⟩

/-- The commit drops the cached address exactly where the width code is another (R31, R145). -/
theorem committed_p0_of_legal (s : State) {c : CfgRecord} (legal : cfgInDomain c) :
    (s.committed c).p0 = { present := s.p0.present && c.aw.toNat == s.cfg.aw.toNat, addr := s.p0.addr } := by
  rw [State.committed_p0, ← (legalAw_code legal).1]
  generalize c.aw.setWidth 2 = code
  by_cases hsame : code = s.cfg.aw
  · simp [hsame]
  · simp [hsame, mt BitVec.eq_of_toNat_eq hsame]

/-- The frames, waits and levels of INITIALISE's session (R146). -/
def initialiseItems (c : CfgRecord) : List Item :=
  [.pause 100000, .ce .low, .pause 1000, .csn .high, .send [0x20, 0x0E], .pause 5000, .send [0x21, 0x3F],
    .send [0x23, c.aw], .send [0x24, c.ard ||| c.arc], .send [0x25, c.ch], .send [0x26, c.dr ||| c.pwr],
    .send [0x3D, 0x05], .send [0x3C, if c.dyn = 1 then 0x3F else 0x00], .send [0x27, 0x70], .send [0xE1], .send [0xE2]]

/-- INITIALISE drives both levels before its frames, which leave them so, whether or not one fails. -/
theorem initialiseItems_levels (c : CfgRecord) (s : State) : s.Levels (initialiseItems c) .low :=
  framesAndPauses_levels (items := (initialiseItems c).drop 4) rfl _ .low

theorem runCommand_initialiseSequence (c : CfgRecord) (s : State) :
    runCommand s (initialiseSequence c) = .next
      { afterSession s (initialiseItems c) .none with
        mode := if (play (initialiseItems c) s.env).complete then .standbyI else s.mode
        ce := .low } := by
  have hplays : Act.Plays _ (initialiseItems c) :=
    plays_bind (plays_waited Config.tPor) <|
    plays_bind (plays_driveCE .low) <|
    plays_bind (plays_waited Config.tCeCsn) <|
    plays_bind (plays_driveCSN .high) <|
    plays_bind (plays_writeReg Config.regConfig [0x0E]) <|
    plays_bind (plays_waited Config.tXtal) <|
    plays_bind (plays_writeReg Config.regEnAa [0x3F]) <|
    plays_bind (plays_writeReg Config.regSetupAw [c.aw]) <|
    plays_bind (plays_writeReg Config.regSetupRetr [c.ard ||| c.arc]) <|
    plays_bind (plays_writeReg Config.regRfCh [c.ch]) <|
    plays_bind (plays_writeReg Config.regRfSetup [c.dr ||| c.pwr]) <|
    plays_bind (plays_writeReg Config.regFeature [0x05]) <|
    plays_bind (plays_writeReg Config.regDynpd [dynpdByte c.dyn]) <|
    plays_bind (plays_writeReg Config.regStatus [0x70]) <|
    plays_bind plays_flushTxFifo plays_flushRxFifo
  have henters := enters_bind (f := fun _ => act (·.withMode .standbyI)) (hplays.playsAt s.openSession)
    (enters_withMode .standbyI _)
  rw [List.append_nil] at henters
  rw [initialiseSequence, inOneSession_withMode]
  exact runCommand_enters henters (initialiseItems_levels c s)

/-- Settles O26: a legal record is committed and its session played, any other is the parameter error of R144. -/
theorem initialiseEffect : Obligations.InitialiseEffect := by
  unfold Obligations.InitialiseEffect
  refine ⟨fun s c hidle legal => ?_, fun s c hidle hillegal => ?_, fun s => rfl⟩
  case refine_1 =>
    have hrun : exec (.initialise (.record c)) s = runCommand (s.committed c) (initialiseSequence c) :=
      (hostCommand_idle hidle _).trans (if_pos ((legalCfg_iff c).mpr legal))
    rw [hrun, runCommand_initialiseSequence, ← committed_p0_of_legal s legal, ← (legalAw_code legal).2]
    rfl
  case refine_2 =>
    have hrun : exec (.initialise (.record c)) s = parameterError s :=
      (hostCommand_idle hidle _).trans (if_neg (mt (legalCfg_iff c).mp hillegal))
    rw [hrun, parameterError, ended_idle hidle]

/-! ### STANDBY_MODE -/

theorem exec_standbyMode {s : State} (hidle : s.phase = .idle) :
    exec .standbyMode s = runCommand s (standbyAction s.mode >>= fun _ => pure .none) :=
  hostCommand_idle hidle _

theorem exec_standbyMode_rx {s : State} (hidle : s.phase = .idle) (hrx : s.mode = .rx) :
    exec .standbyMode s = runCommand s (standbySequence >>= fun _ => pure .none) := by
  rw [exec_standbyMode hidle, hrx]
  rfl

/-- Settles O27: from RX one session, whose two frames come before CE and the wait; from elsewhere nothing but the
result. -/
theorem standbyModeEffect : Obligations.StandbyModeEffect := by
  unfold Obligations.StandbyModeEffect
  refine ⟨fun s hidle hrx => ?_, fun s hidle hrx => ?_⟩
  case refine_1 =>
    intro items
    have hlevels : s.Levels items (if (play items s.env).complete then .low else s.ce) :=
      frames_append_levels s _ [.send _] rfl fun _ _ => ⟨rfl, rfl, rfl⟩
    rw [exec_standbyMode_rx hidle hrx, ← hrx]
    refine runCommand_enters ?_ hlevels
    exact enters_bind (isFrame_readReg Config.regConfig _).playsAt <|
      enters_bind ((plays_writeReg _ _).playsAt _) <|
      enters_bind ((plays_driveCE _).playsAt _) <|
      enters_bind ((plays_waited _).playsAt _) (enters_withMode _ _)
  case refine_2 =>
    rw [exec_standbyMode hidle, standbyAction, beq_eq_false_iff_ne.mpr hrx, ← ended_idle hidle]
    rfl

/-! ### RECEIVER_MODE -/

/-- The test of bit 0 that RECEIVER_MODE makes of CONFIG. -/
theorem primRx_clear (v : Byte) : (v &&& 0x01 == 0) = !v.getLsbD 0 := by
  revert v
  decide

/-- The frames of RECEIVER_MODE after its read of CONFIG as `v` (R151, R152). -/
def receiverFrames (v : Byte) (p0 : PipeZero) : List Item :=
  (if v.getLsbD 0 then [] else [Item.send [0x20, v ||| 0x01] ]) ++
    if p0.present then [Item.send (0x2A :: p0.addr)] else []

theorem receiverFrames_all (v : Byte) (p0 : PipeZero) : (receiverFrames v p0).all isFrameOrPause = true := by
  unfold receiverFrames
  cases v.getLsbD 0 <;> cases p0.present <;> rfl

/-- PRIM_RX is written only where the read shows it clear (R151). -/
theorem plays_setPrimRx (v : Byte) :
    Act.Plays (onlyIf (v &&& 0x01 == 0) (writeReg Config.regConfig [v ||| 0x01]))
      (if v.getLsbD 0 then [] else [.send [0x20, v ||| 0x01] ]) := by
  rw [primRx_clear]
  cases v.getLsbD 0 with
  | true => exact plays_nil
  | false => exact plays_writeReg _ _

/-- Settles O28: one session, in which the two conditional frames follow the read that decides the first. -/
theorem receiverModeEffect : Obligations.ReceiverModeEffect := by
  unfold Obligations.ReceiverModeEffect
  intro s hidle v items
  have hlevels : s.Levels items (if (play items s.env).complete then .high else s.ce) :=
    frames_append_levels s _ (receiverFrames v s.p0) (receiverFrames_all v s.p0) fun _ _ => ⟨rfl, rfl, rfl⟩
  rw [exec, execReceiverMode, hostCommand_idle hidle]
  refine runCommand_enters ?_ hlevels
  simp only [items, List.append_assoc]
  exact enters_bind (isFrame_readReg Config.regConfig _).playsAt <|
    enters_bind ((plays_setPrimRx v).playsAt _) <|
    enters_look <|
    enters_bind ((plays_onlyIf (plays_writeReg _ _)).playsAt _) <|
    enters_bind ((plays_driveCE _).playsAt _) <|
    enters_bind ((plays_waited _).playsAt _) (enters_withMode _ _)

/-! ### SEND_PACKET -/

/-- The pulse is the items of R157, and the mode they end in. -/
theorem enters_pulsed (s : State) : Act.Enters (act State.pulsed) s [.ce .high, .pause 10, .ce .low] .standbyI := by
  simp [Act.Enters, play, State.pulsed, State.observed, State.driveCE, State.waited, State.withMode, State.emit,
    ceAfter, csnAfter, Config.tCePulse]

/-- Outside RX there is nothing to leave (R154). -/
theorem leaveReceiver_of_ne {m : Mode} (h : m ≠ .rx) : leaveReceiver m = pure () := by
  rw [leaveReceiver, beq_eq_false_iff_ne.mpr h]
  rfl

theorem exec_sendPacket {s : State} {payload : List Byte} (hidle : s.phase = .idle) (hlow : 1 ≤ payload.length)
    (hhigh : payload.length ≤ 32) :
    exec (.sendPacket payload) s = .next (State.startWait (sendSequence s.mode payload s)) :=
  (hostCommand_idle hidle _).trans (if_pos (lengthOk_of_bounds hlow hhigh))

/-- Settles O29: the payload frame, the pulse and the mode after it, and then the wait or the exit actions. -/
theorem sendPacketEffect : Obligations.SendPacketEffect := by
  unfold Obligations.SendPacketEffect
  intro s payload hidle hrx hlow hhigh items
  have hsession : sendSequence s.mode payload s =
      (writeTxPayload payload >>= fun _ => act State.pulsed) s.openSession := by
    rw [sendSequence_eq, leaveReceiver_of_ne hrx]
    rfl
  have henters : Act.Enters _ s.openSession items .standbyI :=
    enters_bind (f := fun _ => act State.pulsed) ((plays_writeTxPayload payload).playsAt _) (enters_pulsed _)
  have hlevels : s.Levels items (if (play items s.env).complete then .low else s.ce) :=
    frames_append_levels s (tail := [.ce .high, .pause 10, .ce .low]) _ [] rfl fun _ _ => ⟨rfl, rfl, rfl⟩
  rw [exec_sendPacket hidle hlow hhigh, hsession, henters, State.openSession_env]
  cases hcomplete : (play items s.env).complete with
  | true =>
    obtain ⟨hcsn, hce⟩ := hlevels
    simp [State.startWait, State.observed, State.openSession, State.emit, State.withMode, State.withPhase, hcomplete,
      hcsn, hce]
  | false =>
    rw [if_neg Bool.false_ne_true, if_neg Bool.false_ne_true, State.startWait, raised_observed hcomplete hlevels,
      hcomplete]
    rfl

/-- STANDBY_MODE from RX leaves RX exactly where it returns `Ok` (R148). -/
theorem standbyMode_mode {s u : State} (hrx : s.mode = .rx) (h : exec .standbyMode s = .next u) :
    u.mode = if u.result = .ok then .standbyI else .rx := by
  obtain ⟨hidle, -⟩ := hostCommand_next h
  rw [standbyModeEffect.1 s hidle hrx] at h
  cases h
  dsimp only [afterSession]
  split <;> rfl

/-- The pre-step of SEND_PACKET from RX is STANDBY_MODE: it goes on from the same end state, or raises into it
(R155). -/
theorem leaveReceiver_of_standbyMode {s u : State} (hrx : s.mode = .rx) (h : exec .standbyMode s = .next u) :
    u.result = .ok ∧ leaveReceiver s.mode s = .ok () u ∨
      ∃ t, u = t.raised .busError ∧ leaveReceiver s.mode s = .error .busError t := by
  obtain ⟨hidle, -⟩ := hostCommand_next h
  have hleave : leaveReceiver s.mode s = (standbySequence >>= fun _ => act (·.ended .ok .none)) s := by
    rw [hrx]
    rfl
  have hraises := session_standbySequence (s₀ := s) (i := .standbyMode) trivial s s (.refl _)
  rw [exec_standbyMode_rx hidle hrx, runCommand, bind_run] at h
  rw [hleave, bind_run]
  cases hsession : standbySequence s with
  | ok _ t =>
    rw [hsession] at h
    cases h
    exact .inl ⟨rfl, rfl⟩
  | error e t =>
    rw [hsession] at h hraises
    cases h
    obtain ⟨rfl, -⟩ := hraises
    exact .inr ⟨t, rfl, rfl⟩

/-- Settles O30: both run the session of STANDBY_MODE first, and what follows it in SEND_PACKET does not leave RX
again. -/
theorem sendPacketLeavesReceiver : Obligations.SendPacketLeavesReceiver := by
  unfold Obligations.SendPacketLeavesReceiver
  intro s u payload hrx hlow hhigh hstandby
  obtain ⟨hidle, -⟩ := hostCommand_next hstandby
  have hmode := standbyMode_mode hrx hstandby
  have hrun := exec_sendPacket hidle hlow hhigh
  rw [sendSequence_eq, bind_run] at hrun
  obtain ⟨hok, hleave⟩ | ⟨t, rfl, hleave⟩ := leaveReceiver_of_standbyMode hrx hstandby
  · refine ⟨fun _ => ?_, fun hfailed => absurd hok hfailed⟩
    have hidle' : u.phase = .idle := (nextIn_ends_standbyMode u hstandby).phase_idle
    have hrx' : u.mode ≠ .rx := by
      rw [hmode, if_pos hok]
      nofun
    rw [hrun, hleave, exec_sendPacket hidle' hlow hhigh, sendSequence_eq, leaveReceiver_of_ne hrx']
    rfl
  · have hbus : (t.raised .busError).result = .busError := State.raised_result ..
    have hfailed : (t.raised .busError).result ≠ .ok := by
      rw [hbus]
      nofun
    rw [if_neg hfailed] at hmode
    rw [hleave] at hrun
    exact ⟨fun hok => absurd hok hfailed, fun _ => ⟨hrun, hbus, hmode⟩⟩

/-! ### The pipe-0 address -/

theorem lastWrite_append (c : Byte) (a b : List Event) :
    lastWrite c (a ++ b) = (lastWrite c b).or (lastWrite c a) := by
  induction a with
  | nil => simp [lastWrite]
  | cons e a ih =>
    rw [List.cons_append]
    cases e with
    | xfer tx r =>
      cases r with
      | short => cases tx <;> simp [lastWrite, ih]
      | ok rx =>
        cases tx with
        | nil => simp [lastWrite, ih]
        | cons d v =>
          simp only [lastWrite, ih]
          cases lastWrite c b <;> rfl
    | _ => simp [lastWrite, ih]

/-- A frame to the register, answered in full, with no other write of it after. -/
theorem lastWrite_send {after : List Item} {c : Byte} {v : List Byte} {e : Env}
    (hafter : ∀ e, lastWrite c (play after e).events = none)
    (hcomplete : (play (.send (c :: v) :: after) e).complete = true) :
    lastWrite c (play (.send (c :: v) :: after) e).events = some v := by
  revert hcomplete
  rw [play]
  rcases e.answer (c :: v) with ⟨answer, e'⟩
  cases answer with
  | ok rx => simp [hafter, frameEvents, lastWrite]
  | short => nofun

theorem complete_of_ok {s : State} {items : List Item} {r : Reply} (hok : (afterSession s items r).result = .ok) :
    (play items s.env).complete = true := by
  simpa [afterSession] using hok

/-- A session that was answered in full wrote what its last frame to the register says (R120, R121). -/
theorem lastWrite_afterSession {s : State} {before after : List Item} {c : Byte} {v : List Byte} {r : Reply}
    (hafter : ∀ e, lastWrite c (play after e).events = none)
    (hok : (afterSession s (before ++ .send (c :: v) :: after) r).result = .ok) :
    lastWrite c (afterSession s (before ++ .send (c :: v) :: after) r).trace = some v := by
  have hcomplete := complete_of_ok hok
  have hevents : lastWrite c (play (before ++ .send (c :: v) :: after) s.env).events = some v := by
    rw [play_append] at hcomplete ⊢
    split at hcomplete
    case isFalse hbefore => exact absurd hcomplete hbefore
    case isTrue hbefore => rw [if_pos hbefore, lastWrite_append, lastWrite_send hafter hcomplete, Option.some_or]
  simp [afterSession, lastWrite_append, hevents, lastWrite]

theorem keptByBus_p0 (p : PipeZero) : KeptByBus fun s => s.p0 = p where
  framed _ h := h
  openSession h := h
  closeSession h := h

/-- What RX_DESTINATION of pipe 0 does after it has cached the address (R173). -/
def rxDestinationRest : Act Reply := do
  let e ← readReg Config.regEnRxaddr
  onlyIf (e &&& pipeBit 0 == 0) (writeReg Config.regEnRxaddr [e ||| pipeBit 0])
  act (·.closeSession)
  pure .none

theorem keeps_rxDestinationRest (p : PipeZero) : Act.Keeps (fun s => s.p0 = p) rxDestinationRest :=
  keeps_bind (keeps_readReg (keptByBus_p0 p) _) fun _ =>
    keeps_bind (keeps_onlyIf (keeps_writeReg (keptByBus_p0 p) _ _)) fun _ =>
    keeps_bind (keeps_act fun _ => (keptByBus_p0 p).closeSession) fun _ => keeps_pure _

theorem rxDestinationSequence_zero (a : List Byte) :
    (rxDestinationSequence 0 a >>= fun _ => pure Reply.none) =
      (act (·.openSession) >>= fun _ => writeReg (rxAddrReg 0) a >>= fun _ => act (·.cacheP0 a) >>= fun _ =>
        rxDestinationRest) := by
  simp only [rxDestinationSequence, inOneSession, rxDestinationRest, bind_assoc, pure_bind]
  rfl

/-- RX_DESTINATION of pipe 0 that returns `Ok` has cached the bytes it sent (R172). -/
theorem rxDestinationSequence_caches (a : List Byte) (s : State)
    (hok : (State.finish ((rxDestinationSequence 0 a >>= fun _ => pure .none) s)).result = .ok) :
    (State.finish ((rxDestinationSequence 0 a >>= fun _ => pure .none) s)).p0 = { present := true, addr := a } := by
  rw [rxDestinationSequence_zero, bind_run, act_run] at hok ⊢
  dsimp only at hok ⊢
  rw [bind_run, writeReg_run] at hok ⊢
  cases hanswer : (s.openSession.env.answer (writeCommand (rxAddrReg 0) :: a)).1 with
  | short =>
    rw [hanswer] at hok
    cases (State.raised_result _ _).symm.trans hok
  | ok rx =>
    exact keeps_end (f := State.finish) (keeps_rxDestinationRest _) (State.cacheP0_p0 _ a) (fun _ _ h => h)
      fun e t h => (State.raised_p0 t e).trans h

theorem rxDestination_caches {s t : State} {addr : List Byte} (h : exec (.rxDestination 0 addr) s = .next t)
    (hok : t.result = .ok) : t.p0 = { present := true, addr := addr.take s.awb.toNat } := by
  have hnext : NextIn (fun u => u.result = .ok → u.p0 = { present := true, addr := addr.take s.awb.toNat })
      (exec (.rxDestination 0 addr) s) :=
    nextIn_hostCommand <| nextIn_ite (nextIn_next nofun) <| nextIn_ite (nextIn_refused _) <|
      nextIn_ite (nextIn_refused _) <| nextIn_next (rxDestinationSequence_caches _ s)
  exact hnext t h hok

/-- TX_DESTINATION's session of two frames (R177). -/
theorem txDestination_next {s t : State} {addr : List Byte} (h : exec (.txDestination addr) s = .next t) :
    t = afterSession s [.send (0x30 :: addr.take s.awb.toNat), .send (0x2A :: addr.take s.awb.toNat)] .none := by
  obtain ⟨-, hrun⟩ := hostCommand_next h
  split at hrun
  case isTrue => cases hrun
  case isFalse =>
    have hplays : ∀ a, Act.Plays (writeReg Config.regTxAddr a >>= fun _ => writeReg Config.regRxAddrP0 a)
        ([0x30 :: a, 0x2A :: a].map .send) := fun a => plays_bind (plays_writeReg _ a) (plays_writeReg _ a)
    cases hrun
    exact finish_sends (hplays _) nofun s

/-- RECEIVER_MODE that returns `Ok` has written the cached pipe-0 address back, and is in RX (R151, R152). -/
theorem receiverMode_restores {s t : State} {a : List Byte} (h : exec .receiverMode s = .next t)
    (hok : t.result = .ok) (hcached : s.p0 = { present := true, addr := a }) :
    lastWrite 0x2A t.trace = some a ∧ t.mode = .rx := by
  obtain ⟨hidle, -⟩ := hostCommand_next h
  rw [receiverModeEffect s hidle, hcached] at h
  cases h
  dsimp only at hok ⊢
  refine ⟨?_, if_pos (complete_of_ok hok)⟩
  rw [if_pos rfl, List.append_assoc] at hok ⊢
  exact lastWrite_afterSession (after := [.ce .high, .pause 130]) (fun _ => rfl) hok

/-- Settles O37: RX_DESTINATION caches A, TX_DESTINATION sends B and leaves the cache, RECEIVER_MODE sends what is
cached. -/
theorem pipeZeroRestored : Obligations.PipeZeroRestored := by
  unfold Obligations.PipeZeroRestored
  intro s s1 s2 s3 a b hrx hok1 htx hok2 hreceiver hok3
  have hawb : s1.awb = s.awb := (exec_reach hrx).awb_eq nofun
  have hkept : s2.p0 = s1.p0 := (exec_reach htx).unchanged State.p0 fun hupdate => hupdate.p0_eq nofun nofun
  obtain ⟨hrestored, hmode⟩ := receiverMode_restores hreceiver hok3 (hkept.trans (rxDestination_caches hrx hok1))
  refine ⟨hrestored, ?_, hmode⟩
  rw [← hawb]
  rw [txDestination_next htx] at hok2 ⊢
  exact lastWrite_afterSession (before := [.send _]) (fun _ => rfl) hok2

end Sys2Proof.Machine

/-! SUPPORT. The obligations of 42_config.md: each addressing and configuration command is its checks and one session of
frames, RX_DESTINATION with the pipe-0 cache written in between; and none of them looks at the mode. -/

namespace Sys2Proof.Machine

open Sys2Proof.Safety

/-! ### Sessions of frames -/

section Sessions

variable {s : State}

theorem parameterError_idle (hidle : s.phase = .idle) :
    parameterError s = .next { s with result := .parameterError, reply := .none } :=
  congrArg _ (ended_idle hidle _ _)

theorem runCommand_writeReg (addr : Byte) (v : List Byte) (s : State) :
    runCommand s (inOneSession (writeReg addr v) >>= fun _ => pure .none) =
      .next (afterSession s [.send (writeCommand addr :: v)] .none) :=
  runCommand_isFrame (fun _ => .none) (isFrame_writeReg addr v _)

theorem runCommand_sends {body : Act Unit} {txs : List (List Byte)} (h : body.Plays (txs.map .send)) (hne : txs ≠ [])
    (s : State) :
    runCommand s (inOneSession body >>= fun _ => pure .none) = .next (afterSession s (txs.map .send) .none) :=
  congrArg _ (finish_sends h hne s)

theorem runCommand_session_congr {t : State} {x y : Act Unit} (h : x s.openSession = y t.openSession) :
    runCommand s (inOneSession x >>= fun _ => pure .none) = runCommand t (inOneSession y >>= fun _ => pure .none) := by
  rw [runCommand, runCommand, bind_run, bind_run, inOneSession_run, inOneSession_run, h]

theorem play_send_env (tx : List Byte) (e : Env) : (play [.send tx] e).env = (e.answer tx).2 := by
  rw [play]
  rcases e.answer tx with ⟨answer, later⟩
  cases answer <;> rfl

theorem playsAt_bind {α : Type} {x : Act α} {f : α → Act Unit} {a b : List Item} {v : α} (hx : x.PlaysAt s a v)
    (hf : (f v).PlaysAt (s.observed (play a s.env)) b ()) : Act.PlaysAt (x >>= f) s (a ++ b) () :=
  enters_bind (m := s.mode) hx hf

/-- A command that is one session of items which leave CE as it is (R140 to R142). -/
theorem runCommand_plays {body : Act Unit} {items : List Item} (h : body.PlaysAt s.openSession items ())
    (hlevels : s.Levels items s.ce) :
    runCommand s (inOneSession body >>= fun _ => pure .none) = .next (afterSession s items .none) := by
  rw [runCommand_enters (m := s.mode) h hlevels, ite_self]
  rfl

/-- A command that checks its operands: its effect where they are in their domain, else the parameter error (R141). -/
theorem hostCommand_checked {legal : Bool} {inDomain : Prop} [Decidable inDomain] {t : State}
    {run : Host.Outcome State Fault Refusal} (hidle : s.phase = .idle) (hlegal : legal = true ↔ inDomain)
    (hrun : run = .next t) :
    hostCommand s (if legal then run else parameterError s) =
      .next (if inDomain then t else { s with result := .parameterError, reply := .none }) := by
  rw [hostCommand_idle hidle]
  by_cases h : inDomain
  · rw [if_pos h, if_pos (hlegal.mpr h), hrun]
  · rw [if_neg h, if_neg (mt hlegal.mp h), parameterError_idle hidle]

end Sessions

/-! ### RX_DESTINATION -/

/-- RX_DESTINATION's write of a pipe's address register (R81, R171). -/
def addressFrame (pipe : Byte) (a : List Byte) : List Byte := writeCommand (rxAddrReg pipe) :: a

/-- The address registers of pipes 0 to 5 follow one another (R87). -/
theorem addressFrame_eq {pipe : Byte} (h : pipe.toNat ≤ 5) (a : List Byte) :
    addressFrame pipe a = (0x2A + pipe) :: a := by
  have hcommand : ∀ p : Byte, p.toNat ≤ 5 → writeCommand (rxAddrReg p) = 0x2A + p := by decide
  rw [addressFrame, hcommand pipe h]

/-- A single pipe is not `ALL` (R102). -/
theorem ne_all_of_le {pipe : Byte} (h : pipe.toNat ≤ 5) : pipe ≠ 6 := by
  rintro rfl
  exact absurd h (by decide)

/-- The test of a pipe's bit that RX_DESTINATION makes of EN_RXADDR (R90, R173). -/
theorem pipeBit_clear {pipe : Byte} (h : pipe.toNat ≤ 5) (e : Byte) :
    (e &&& pipeBit pipe == 0) = !e.getLsbD pipe.toNat := by
  have hbit : pipeBit pipe = BitVec.twoPow 8 pipe.toNat := (BitVec.twoPow_eq 8 pipe.toNat).symm
  have hset : BitVec.twoPow 8 pipe.toNat ≠ 0#8 := fun hzero => by
    have hlow : 8 ≤ pipe.toNat := by simpa using congrArg (·.getLsbD pipe.toNat) hzero
    omega
  rw [hbit, BitVec.and_twoPow]
  cases e.getLsbD pipe.toNat with
  | true => exact beq_eq_false_iff_ne.mpr hset
  | false => rfl

/-- The enable bit of R90, written as a shift of the number 1. -/
theorem natCast_pipeBit (pipe : Byte) : ((1 <<< pipe.toNat : Nat) : Byte) = pipeBit pipe :=
  BitVec.eq_of_toNat_eq (by simp [pipeBit])

/-- The write of EN_RXADDR that enables a pipe, where it was read as `e` (R173). -/
def enableItems (pipe e : Byte) : List Item :=
  if e.getLsbD pipe.toNat then [] else [.send [0x22, e ||| (1 <<< pipe.toNat)]]

/-- A pipe is enabled only where the read shows it disabled (R173). -/
theorem plays_enable {pipe : Byte} (h : pipe.toNat ≤ 5) (e : Byte) :
    Act.Plays (onlyIf (e &&& pipeBit pipe == 0) (writeReg Config.regEnRxaddr [e ||| pipeBit pipe]))
      (enableItems pipe e) := by
  rw [pipeBit_clear h, enableItems, natCast_pipeBit]
  cases e.getLsbD pipe.toNat with
  | true => exact plays_nil
  | false => exact plays_writeReg _ _

theorem enableItems_all (pipe e : Byte) : (enableItems pipe e).all isFrameOrPause = true := by
  unfold enableItems
  cases e.getLsbD pipe.toNat <;> rfl

/-- The frames of RX_DESTINATION, EN_RXADDR read after the address frame (R171, R173). -/
def rxDestinationItems (pipe : Byte) (a : List Byte) (s : State) : List Item :=
  .send (addressFrame pipe a) :: .send [0x02, s.params.nopByte] ::
    enableItems pipe (valueRead (s.env.answer (addressFrame pipe a)).2 [0x02, s.params.nopByte])

/-- The end of RX_DESTINATION's session: the enable bit (R173). -/
def enablePipe (pipe : Byte) : Act Unit := do
  let e ← readReg Config.regEnRxaddr
  onlyIf (e &&& pipeBit pipe == 0) (writeReg Config.regEnRxaddr [e ||| pipeBit pipe])

/-- The state with the pipe-0 address that RX_DESTINATION leaves cached (R172). -/
def State.cachedBy (s : State) (pipe : Byte) (a : List Byte) : State :=
  { s with
    p0 := if pipe = 0 ∧ (received s.env (addressFrame pipe a)).isSome then { present := true, addr := a } else s.p0 }

/-- No frame reads the cache, so its write after the address frame is as one made before it, where that frame is going
to be answered. -/
theorem cacheP0_after_frame (pipe : Byte) (a : List Byte) (rest : Act Unit) (s : State) :
    (writeReg (rxAddrReg pipe) a >>= fun _ => onlyIf (pipe == 0) (act (·.cacheP0 a)) >>= fun _ => rest) s =
      (writeReg (rxAddrReg pipe) a >>= fun _ => rest) (s.cachedBy pipe a) := by
  by_cases hpipe : pipe = 0
  · subst hpipe
    rw [bind_run, bind_run, writeReg_run, writeReg_run, State.cachedBy, received, addressFrame]
    cases (s.env.answer (writeCommand (rxAddrReg 0) :: a)).1 with
    | short => rfl
    | ok rx => rfl
  · have hcached : s.cachedBy pipe a = s := by rw [State.cachedBy, if_neg fun h => hpipe h.1]
    rw [hcached, beq_eq_false_iff_ne.mpr hpipe]
    rfl

/-- The address and the enable bit as items (R171, R173). -/
theorem runCommand_enablePipe {pipe : Byte} (h : pipe.toNat ≤ 5) (a : List Byte) (s : State) :
    runCommand s (inOneSession (writeReg (rxAddrReg pipe) a >>= fun _ => enablePipe pipe) >>= fun _ => pure .none) =
      .next (afterSession s (rxDestinationItems pipe a s) .none) := by
  have hlevels : s.Levels (rxDestinationItems pipe a s) s.ce :=
    frames_levels _ (frames := .send _ :: enableItems pipe _) (enableItems_all pipe _) s.env s.csn s.ce
  have hread : (readReg Config.regEnRxaddr).PlaysAt
      (s.openSession.observed (play [.send (addressFrame pipe a)] s.env)) [.send [0x02, s.params.nopByte]]
      (valueRead (s.env.answer (addressFrame pipe a)).2 [0x02, s.params.nopByte]) := by
    rw [← play_send_env]
    exact (isFrame_readReg Config.regEnRxaddr _).playsAt
  exact runCommand_plays (playsAt_bind (isFrame_writeReg _ a _).playsAt <|
    playsAt_bind hread ((plays_enable h _).playsAt _)) hlevels

theorem runCommand_rxDestinationSequence {pipe : Byte} (h : pipe.toNat ≤ 5) (a : List Byte) (s : State) :
    runCommand s (rxDestinationSequence pipe a >>= fun _ => pure .none) =
      .next (afterSession (s.cachedBy pipe a) (rxDestinationItems pipe a s) .none) :=
  (runCommand_session_congr (cacheP0_after_frame pipe a (enablePipe pipe) s.openSession)).trans
    (runCommand_enablePipe h a (s.cachedBy pipe a))

theorem exec_rxDestination {s : State} (hidle : s.phase = .idle) (pipe : Byte) (addr : List Byte) :
    exec (.rxDestination pipe addr) s =
      if 7 ≤ pipe.toNat then parameterError s
      else if pipe = 6 then .refused .pipeAll
      else if addr.length < addressBytes s.awb pipe then .refused .shortAddress
      else runCommand s
        (rxDestinationSequence pipe (addr.take (addressBytes s.awb pipe)) >>= fun _ => pure .none) :=
  hostCommand_idle hidle _

/-- Settles O35: the checks in R170's order, and the session with the cache it leaves. -/
theorem rxDestinationEffect : Obligations.RxDestinationEffect := by
  unfold Obligations.RxDestinationEffect
  intro s pipe addr hidle need
  rw [exec_rxDestination hidle]
  refine ⟨fun hpipe => ?_, fun hpipe => ?_, fun hpipe hshort => ?_, fun hpipe hlength => ?_⟩
  · rw [if_pos hpipe, parameterError_idle hidle]
  · rw [if_neg (by omega), if_pos (BitVec.eq_of_toNat_eq hpipe)]
  · rw [if_neg (by omega), if_neg (ne_all_of_le hpipe)]
    exact if_pos hshort
  · rw [if_neg (by omega), if_neg (ne_all_of_le hpipe)]
    refine (if_neg (not_lt.mpr hlength)).trans ?_
    rw [runCommand_rxDestinationSequence hpipe, rxDestinationItems, State.cachedBy, addressFrame_eq hpipe]
    rfl

/-! ### TX_DESTINATION -/

/-- Settles O36: the two address frames in one session, from a buffer that is long enough. -/
theorem txDestinationEffect : Obligations.TxDestinationEffect := by
  unfold Obligations.TxDestinationEffect
  intro s addr hidle
  refine ⟨fun hlength => ?_, fun hshort => ?_⟩
  · refine (hostCommand_idle hidle _).trans <| (if_neg (not_lt.mpr hlength)).trans ?_
    exact runCommand_sends (txs := [_, _]) (plays_bind (plays_writeReg _ _) (plays_writeReg _ _)) nofun s
  · exact (hostCommand_idle hidle _).trans (if_pos hshort)

/-! ### PAYLOAD_SIZE -/

/-- The write command of a pipe's payload-width register (R81, R87). -/
theorem writeCommand_rxPwReg {pipe : Byte} (h : pipe.toNat ≤ 5) : writeCommand (rxPwReg pipe) = 0x31 + pipe := by
  revert pipe
  decide

theorem exec_payloadSize {s : State} (hidle : s.phase = .idle) (pipe size : Byte) :
    exec (.payloadSize pipe size) s =
      if legalSize size && legalPipe pipe then
        runCommand s (payloadSizeSequence pipe size >>= fun _ => pure .none)
      else parameterError s :=
  hostCommand_idle hidle _

/-- R178's check of both operands. -/
theorem legalPayloadSize_iff (pipe size : Byte) :
    (legalSize size && legalPipe pipe) = true ↔ (1 ≤ size.toNat ∧ size.toNat ≤ 32) ∧ pipe.toNat < 7 := by
  simp [legalSize, legalPipe]

/-- The six widths of `ALL`, pipes 0 to 5 ascending (R179). -/
theorem plays_allPayloadSizes (size : Byte) :
    Act.Plays
      (writeReg (rxPwReg 0) [size] >>= fun _ => writeReg (rxPwReg 1) [size] >>= fun _ =>
        writeReg (rxPwReg 2) [size] >>= fun _ => writeReg (rxPwReg 3) [size] >>= fun _ =>
        writeReg (rxPwReg 4) [size] >>= fun _ => writeReg (rxPwReg 5) [size])
      ([[0x31, size], [0x32, size], [0x33, size], [0x34, size], [0x35, size], [0x36, size]].map .send) :=
  plays_bind (plays_writeReg _ _) <| plays_bind (plays_writeReg _ _) <| plays_bind (plays_writeReg _ _) <|
    plays_bind (plays_writeReg _ _) <| plays_bind (plays_writeReg _ _) (plays_writeReg _ _)

/-- Settles O38: legal operands give one session, of one width or of the six, any others the parameter error. -/
theorem payloadSizeEffect : Obligations.PayloadSizeEffect := by
  unfold Obligations.PayloadSizeEffect
  intro s pipe size hidle
  rw [exec_payloadSize hidle]
  refine ⟨fun hillegal => ?_, fun hlow hhigh hpipe => ?_, fun hlow hhigh hpipe => ?_⟩
  · have h : ¬(legalSize size && legalPipe pipe) = true := by
      rw [legalPayloadSize_iff]
      omega
    rw [if_neg h, parameterError_idle hidle]
  · rw [if_pos ((legalPayloadSize_iff pipe size).mpr ⟨⟨hlow, hhigh⟩, by omega⟩), payloadSizeSequence,
      if_neg (ne_all_of_le hpipe), runCommand_writeReg, writeCommand_rxPwReg hpipe]
  · rw [if_pos ((legalPayloadSize_iff pipe size).mpr ⟨⟨hlow, hhigh⟩, by omega⟩), payloadSizeSequence,
      if_pos (BitVec.eq_of_toNat_eq hpipe)]
    exact runCommand_sends (plays_allPayloadSizes size) nofun s

/-! ### Commands that commit part of the configuration -/

/-- Settles O39: the commit, and then the session of frames from the state it leaves. -/
theorem dynPayloadsEffect : Obligations.DynPayloadsEffect := by
  unfold Obligations.DynPayloadsEffect
  intro s hidle
  constructor
  · refine (hostCommand_idle hidle _).trans ?_
    exact runCommand_sends (txs := [_, _]) (plays_bind (plays_writeReg _ _) (plays_writeReg _ _)) nofun _
  · exact (hostCommand_idle hidle _).trans (runCommand_writeReg _ _ _)

/-- R184's check of both operands. -/
theorem legalRetransmission_iff (ard arc : Byte) :
    (legalArd ard && legalArc arc) = true ↔ ard ∈ [0x00#8, 0x10#8, 0x20#8, 0x30#8] ∧ arc.toNat ≤ 15 := by
  simp [legalArd, legalArc, or_assoc]

/-- Settles O40: the check of R184, and the commit and the one frame of R185. -/
theorem autoRetransmissionEffect : Obligations.AutoRetransmissionEffect := by
  unfold Obligations.AutoRetransmissionEffect
  intro s ard arc hidle
  exact hostCommand_checked hidle (legalRetransmission_iff ard arc) (runCommand_writeReg _ _ _)

theorem legalCh_iff (ch : Byte) : legalCh ch = true ↔ 2 ≤ ch.toNat ∧ ch.toNat ≤ 125 := by
  simp [legalCh]

/-- Settles O41: the check of R188, and the commit and the one frame of R189. -/
theorem rfChannelEffect : Obligations.RfChannelEffect := by
  unfold Obligations.RfChannelEffect
  intro s ch hidle
  exact hostCommand_checked hidle (legalCh_iff ch) (runCommand_writeReg _ _ _)

theorem legalDr_iff (dr : Byte) : legalDr dr = true ↔ dr ∈ [0x00#8, 0x08#8, 0x20#8] := by
  simp [legalDr, or_assoc]

theorem legalPwr_iff (pwr : Byte) : legalPwr pwr = true ↔ pwr ∈ [0x00#8, 0x02#8, 0x04#8, 0x06#8] := by
  simp [legalPwr, or_assoc]

/-- Settles O42: the checks of R190 and R193; the frame takes the half that is not committed from the cache (R191,
R194). -/
theorem rfSetupEffect : Obligations.RfSetupEffect := by
  unfold Obligations.RfSetupEffect
  intro s hidle
  exact ⟨fun dr => hostCommand_checked hidle (legalDr_iff dr) (runCommand_writeReg _ _ _),
    fun pwr => hostCommand_checked hidle (legalPwr_iff pwr) (runCommand_writeReg _ _ _)⟩

/-! ### The mode (R182) -/

/-- The events of a command that neither drives CE nor waits. -/
def isBusEvent (e : Event) : Prop := (∀ l, e ≠ .setCE l) ∧ ∀ b, e ≠ .wait b

/-- What was emitted since `s` neither drives CE nor waits. -/
def State.EmitsBus (s t : State) : Prop := ∃ events, t.trace = s.trace ++ events ∧ ∀ e ∈ events, isBusEvent e

theorem State.EmitsBus.refl (s : State) : s.EmitsBus s := ⟨[], (List.append_nil _).symm, nofun⟩

theorem State.EmitsBus.emits {s t u : State} (h : s.EmitsBus t) (more : List Event) (htrace : u.trace = t.trace ++ more)
    (hmore : ∀ e ∈ more, isBusEvent e) : s.EmitsBus u := by
  obtain ⟨events, ht, hevents⟩ := h
  refine ⟨events ++ more, by rw [htrace, ht, List.append_assoc], fun e he => ?_⟩
  exact (List.mem_append.mp he).elim (hevents e) (hmore e)

/-- Outside the mode sequencer no update drives CE or waits (R24). -/
theorem Update.emitsBus {s₀ s a b : State} {i : Instr} (h : Update s₀ i a b) (hi : ¬isModeCommand i)
    (ha : s.EmitsBus a) : s.EmitsBus b := by
  cases h with
  | framed tx => exact ha.emits _ rfl (by simp [isBusEvent])
  | openSession | closeSession => exact ha.emits [_] rfl (by simp [isBusEvent])
  | driveCE hmode | driveCSN hmode | waited hmode => exact absurd hmode hi
  | pulsed | startsWait => exact absurd trivial hi
  | _ => exact ha

theorem not_isModeCommand_of_isSetupCommand {i : Instr} (h : isSetupCommand i) : ¬isModeCommand i := by
  cases i with
  | initialise | standbyMode | receiverMode | sendPacket => exact h.elim
  | _ => exact id

/-- The action does the same in the mode `m` as in any other, and leaves it. -/
def Act.IgnoresMode {α : Type} (m : Mode) (x : Act α) : Prop :=
  ∀ s, x (s.withMode m) = match x s with
    | .ok v t => .ok v (t.withMode m)
    | .error e t => .error e (t.withMode m)

section Actions

variable {α β : Type} {m : Mode} {x : Act α} {f : α → Act β}

theorem ignoresMode_pure (v : α) : Act.IgnoresMode m (pure v : Act α) := fun _ => rfl

theorem ignoresMode_look {g : State → α} (h : ∀ s, g (s.withMode m) = g s := by intro; rfl) :
    Act.IgnoresMode m (look g) := fun s => congrArg (EStateM.Result.ok · _) (h s)

theorem ignoresMode_act {g : State → State} (h : ∀ s, g (s.withMode m) = (g s).withMode m := by intro; rfl) :
    Act.IgnoresMode m (act g) := fun s => congrArg (EStateM.Result.ok ()) (h s)

theorem ignoresMode_bind (hx : x.IgnoresMode m) (hf : ∀ v, (f v).IgnoresMode m) : Act.IgnoresMode m (x >>= f) := by
  intro s
  rw [bind_run, bind_run, hx s]
  cases x s with
  | ok v t => exact hf v t
  | error e t => rfl

theorem ignoresMode_onlyIf {c : Bool} {y : Act Unit} (h : y.IgnoresMode m) : (onlyIf c y).IgnoresMode m := by
  cases c with
  | true => exact h
  | false => exact ignoresMode_pure ()

theorem ignoresMode_frame (tx : List Byte) : (frame tx).IgnoresMode m := by
  intro s
  rw [frame_run, frame_run, State.withMode_env]
  cases (s.env.answer tx).1 with
  | ok rx => rfl
  | short => rfl

theorem ignoresMode_writeReg (addr : Byte) (v : List Byte) : (writeReg addr v).IgnoresMode m :=
  ignoresMode_bind (ignoresMode_frame _) fun _ => ignoresMode_pure ()

theorem ignoresMode_readReg (addr : Byte) : (readReg addr).IgnoresMode m :=
  ignoresMode_bind ignoresMode_look fun _ => ignoresMode_bind (ignoresMode_frame _) fun _ => ignoresMode_pure _

theorem ignoresMode_inOneSession (hx : x.IgnoresMode m) : (inOneSession x).IgnoresMode m :=
  ignoresMode_bind ignoresMode_act fun _ => ignoresMode_bind hx fun _ =>
    ignoresMode_bind ignoresMode_act fun _ => ignoresMode_pure _

theorem ignoresMode_rxDestinationSequence (pipe : Byte) (a : List Byte) :
    (rxDestinationSequence pipe a).IgnoresMode m :=
  ignoresMode_inOneSession <|
    ignoresMode_bind (ignoresMode_writeReg _ _) fun _ =>
    ignoresMode_bind (ignoresMode_onlyIf ignoresMode_act) fun _ =>
    ignoresMode_bind (ignoresMode_readReg _) fun _ => ignoresMode_onlyIf (ignoresMode_writeReg _ _)

theorem ignoresMode_payloadSizeSequence (pipe size : Byte) : (payloadSizeSequence pipe size).IgnoresMode m := by
  have hw : ∀ p, (writeReg (rxPwReg p) [size]).IgnoresMode m := fun _ => ignoresMode_writeReg _ _
  refine ignoresMode_inOneSession ?_
  split
  · exact ignoresMode_bind (hw 0) fun _ => ignoresMode_bind (hw 1) fun _ => ignoresMode_bind (hw 2) fun _ =>
      ignoresMode_bind (hw 3) fun _ => ignoresMode_bind (hw 4) fun _ => hw 5
  · exact hw pipe

end Actions

/-- `o'` is the outcome `o`, but that its next state, where there is one, has the mode `m`. -/
inductive SameButMode (m : Mode) : (o o' : Host.Outcome State Fault Refusal) → Prop
  | next (t : State) : SameButMode m (.next t) (.next (t.withMode m))
  | refused (r : Refusal) : SameButMode m (.refused r) (.refused r)

section Outcomes

variable {m : Mode} {s : State} {o o' a a' b b' : Host.Outcome State Fault Refusal}

theorem sameButMode_ite {c : Prop} [Decidable c] (ha : SameButMode m a a') (hb : SameButMode m b b') :
    SameButMode m (if c then a else b) (if c then a' else b') := by
  split
  · exact ha
  · exact hb

theorem sameButMode_hostCommand (h : SameButMode m o o') :
    SameButMode m (hostCommand s o) (hostCommand (s.withMode m) o') :=
  sameButMode_ite h (.refused _)

theorem raised_withMode (e : ResultCode) : (s.withMode m).raised e = (s.raised e).withMode m := by
  rw [State.raised, State.raised, State.withMode_inSession]
  split <;> rfl

theorem sameButMode_runCommand {x : Act Unit} (hx : x.IgnoresMode m) :
    SameButMode m (runCommand s (x >>= fun _ => pure .none))
      (runCommand (s.withMode m) (x >>= fun _ => pure .none)) := by
  have hend : State.finish ((x >>= fun _ => pure .none) (s.withMode m)) =
      (State.finish ((x >>= fun _ => pure .none) s)).withMode m := by
    rw [bind_run, bind_run, hx s]
    cases x s with
    | ok _ t => rfl
    | error e t => exact raised_withMode e
  rw [runCommand, runCommand, hend]
  exact .next _

theorem sameButMode_parameterError : SameButMode m (parameterError s) (parameterError (s.withMode m)) := .next _

theorem SameButMode.eq_next {t : State} (h : SameButMode m (.next t) o') : o' = .next (t.withMode m) := by
  cases h
  rfl

/-- A configuration command answers the same in any mode, and leaves the mode. -/
theorem sameButMode_exec {i : Instr} (hi : isSetupCommand i) (s : State) (m : Mode) :
    SameButMode m (exec i s) (exec i (s.withMode m)) := by
  have hwrite : ∀ u addr v, SameButMode m
      (runCommand u (inOneSession (writeReg addr v) >>= fun _ => pure .none))
      (runCommand (u.withMode m) (inOneSession (writeReg addr v) >>= fun _ => pure .none)) := fun u addr v =>
    sameButMode_runCommand (ignoresMode_inOneSession (ignoresMode_writeReg addr v))
  cases i with
  | rxDestination pipe addr =>
    exact sameButMode_hostCommand <| sameButMode_ite sameButMode_parameterError <| sameButMode_ite (.refused _) <|
      sameButMode_ite (.refused _) <| sameButMode_runCommand (ignoresMode_rxDestinationSequence _ _)
  | txDestination addr =>
    exact sameButMode_hostCommand <| sameButMode_ite (.refused _) <| sameButMode_runCommand <|
      ignoresMode_inOneSession <| ignoresMode_bind (ignoresMode_writeReg _ _) fun _ => ignoresMode_writeReg _ _
  | payloadSize pipe size =>
    exact sameButMode_hostCommand <|
      sameButMode_ite (sameButMode_runCommand (ignoresMode_payloadSizeSequence _ _)) sameButMode_parameterError
  | dynPayloadsEnable =>
    exact sameButMode_hostCommand <| sameButMode_runCommand (s := s.withCfg _) <|
      ignoresMode_inOneSession <| ignoresMode_bind (ignoresMode_writeReg _ _) fun _ => ignoresMode_writeReg _ _
  | dynPayloadsDisable => exact sameButMode_hostCommand (hwrite (s.withCfg _) _ _)
  | autoRetransmission | rfChannel | rfDataRate | rfPower =>
    exact sameButMode_hostCommand (sameButMode_ite (hwrite (s.withCfg _) _ _) sameButMode_parameterError)
  | _ => exact hi.elim

end Outcomes

/-- Settles O15: by the updates of such a command for the mode, CE and the events; by its actions for any other mode. -/
theorem setupCommandsIgnoreMode : Obligations.SetupCommandsIgnoreMode := by
  unfold Obligations.SetupCommandsIgnoreMode
  intro i s t hi hexec
  have hmode := not_isModeCommand_of_isSetupCommand hi
  have hreach := exec_reach hexec
  refine ⟨hreach.unchanged State.mode fun hupdate => hupdate.mode_eq hmode,
    hreach.unchanged State.ce fun hupdate => hupdate.ce_eq hmode, fun m => ?_,
    hreach.keeps (fun hupdate => hupdate.emitsBus hmode) (.refl s)⟩
  have hsame := sameButMode_exec hi s m
  rw [hexec] at hsame
  exact hsame.eq_next

end Sys2Proof.Machine

/-! SUPPORT. The obligations of 43_poller.md: what one poll does as the list of its frames, the commands that are one
poll or one read in a session, and the turns of SEND_PACKET's wait, alone and many in a row. -/

namespace Sys2Proof.Machine

open Sys2Proof.Safety

/-! ### The poll as its items (R200, R201) -/

/-- What comes of the frames of one poll in `s`, STATUS read as the environment answers it. -/
def State.pollPlayed (s : State) : Played :=
  play (pollItems s.params.nopByte (statusRead s.params.nopByte s.env)) s.env

/-- The state after a poll, whatever its end. -/
def State.polled (s : State) : State :=
  { s with
    csn := .high
    lastStatus := lastStatusAfterPoll s
    env := s.pollPlayed.env
    trace := s.trace ++ s.pollPlayed.events }

/-- A poll plays its items: it returns the byte read and its code, or raises where a frame fails. -/
theorem poll_plays (s : State) :
    poll s =
      if s.pollPlayed.complete then
        .ok (priorityCode (statusRead s.params.nopByte s.env), statusRead s.params.nopByte s.env) s.polled
      else .error .busError s.polled := by
  rw [poll_run, State.polled, State.pollPlayed, lastStatusAfterPoll, statusRead, valueRead, received, pollItems, play]
  generalize ([0x07, s.params.nopByte] : List Byte) = tx
  rcases hanswer : s.env.answer tx with ⟨answer, later⟩
  cases answer with
  | short => simp [State.framed, frameEvents, hanswer]
  | ok rx =>
    have hlevels := fun v => clears_levels v later s.ce
    simp [State.observed, State.withStatus, State.framed, frameEvents, hanswer, hlevels]

/-- A command that is one poll in a session and then its reply (R203, R207). -/
theorem runCommand_poll (reply : Irq × Byte → Reply) (s : State) :
    runCommand s (inOneSession poll >>= fun r => pure (reply r)) =
      let v := statusRead s.params.nopByte s.env
      .next
        { afterSession s (pollItems s.params.nopByte v) (reply (priorityCode v, v)) with
          lastStatus := lastStatusAfterPoll s } := by
  have hplayed : s.openSession.pollPlayed = s.pollPlayed := rfl
  have hlast : lastStatusAfterPoll s.openSession = lastStatusAfterPoll s := rfl
  rw [runCommand, bind_run, inOneSession_run, poll_plays, State.polled, hplayed, hlast]
  dsimp only
  rw [afterSession, ← State.pollPlayed]
  cases s.pollPlayed.complete with
  | true => simp [State.finish, State.openSession, State.closeSession, State.emit, State.ended]
  | false => simp [State.finish, State.raised, State.openSession, State.closeSession, State.emit, State.ended]

/-! ### The status commands and READ_PACKET -/

/-- The priority code as bits of STATUS (R95, R202). -/
theorem priorityCode_bits (v : Byte) :
    priorityCode v =
      if v.getLsbD 6 then .rxDr else if v.getLsbD 5 then .txDs else if v.getLsbD 4 then .maxRt else .none := by
  obtain ⟨hrxDr, htxDs, hmaxRt⟩ := latch_bits v
  rw [priorityCode, hrxDr, htxDs, hmaxRt]

/-- Settles O43: one poll in a session, its code read off the bits of STATUS. -/
theorem checkStatusIrqEffect : Obligations.CheckStatusIrqEffect := by
  unfold Obligations.CheckStatusIrqEffect
  intro s hidle v code
  have hcode : code = priorityCode v := (priorityCode_bits v).symm
  rw [hcode]
  exact (hostCommand_idle hidle _).trans (runCommand_poll (fun r => .status r.1 r.2) s)

/-- IS_PACKET's reply as bits of STATUS (R95, R207). -/
theorem packetReply_bits (v : Byte) :
    packetReply v = if v.getLsbD 6 then .available ((v >>> 1).setWidth 3) else .noPacket := by
  have hpipe : rxPipeNumber v = (v >>> 1).setWidth 3 := by
    revert v
    decide
  rw [packetReply, (latch_bits v).1, hpipe]

/-- Settles O44: one poll in a session, whose reply looks at the byte read alone. -/
theorem isPacketEffect : Obligations.IsPacketEffect := by
  unfold Obligations.IsPacketEffect
  intro s hidle v reply
  have hreply : reply = packetReply v := (packetReply_bits v).symm
  rw [hreply]
  exact (hostCommand_idle hidle _).trans (runCommand_poll (fun r => packetReply r.2) s)

theorem exec_readPacket {s : State} (hidle : s.phase = .idle) (size : Byte) :
    exec (.readPacket size) s =
      if lengthOk size.toNat then
        runCommand s (inOneSession (readRxPayload size.toNat) >>= fun p => pure (.bytes p))
      else .refused .packetSize :=
  hostCommand_idle hidle _

/-- Settles O45: a legal size gives a session of one read frame, whose value is the reply, any other the refusal. -/
theorem readPacketEffect : Obligations.ReadPacketEffect := by
  unfold Obligations.ReadPacketEffect
  intro s size hidle tx
  rw [exec_readPacket hidle]
  constructor
  · intro hlow hhigh
    rw [if_pos (lengthOk_of_bounds hlow hhigh)]
    exact runCommand_isFrame .bytes (isFrame_readRxPayload size.toNat _)
  · intro hsize
    rw [if_neg (not_lengthOk hsize)]

/-! ### One turn of the wait (R204 to R206) -/

section Turn

variable {s : State} {i : Nat}

/-- What a turn does with a poll's answer (R154, R204, R205). -/
def answerPoll (test : CompletionTest) (r : Irq × Byte) : Act WaitTurn :=
  match completion test r.1 r.2 with
  | .sent => do
    act (·.closeSession)
    pure (.finished .ok)
  | .maxrt => giveUp .retryExhausted
  | .keepPolling => pure .again

theorem waitTurn_at_limit (hlimit : s.params.pollLimit = some i) : waitTurn i s = giveUp .timeout s := by
  rw [waitTurn, bind_run, look_run]
  dsimp only
  rw [if_pos hlimit]

theorem waitTurn_below_limit (hlimit : s.params.pollLimit ≠ some i) :
    waitTurn i s = (poll >>= answerPoll s.params.completionTest) s := by
  rw [waitTurn, bind_run, look_run]
  dsimp only
  rw [if_neg hlimit]
  rfl

/-- Giving the packet up ends the session with its one frame (R154, R206). -/
theorem continueWait_giveUp (hopen : s.inSession = true) (i : Nat) (code : ResultCode) :
    State.continueWait i (giveUp code s) = sessionEnd s [.send [0xE1]] code := by
  rw [giveUp, bind_run, (isFrame_flushTxFifo s).run, sessionEnd, play]
  generalize ([0xE1] : List Byte) = tx
  rcases hanswer : s.env.answer tx with ⟨answer, later⟩
  cases answer with
  | ok rx =>
    simp [State.continueWait, bind_run, State.closeSession, State.emit, State.ended, State.framed, frameEvents, play,
      hanswer]
  | short =>
    simp [State.continueWait, State.raised, State.closeSession, State.emit, State.ended, State.framed, frameEvents,
      hanswer, hopen]

/-- Items that were answered in full, and then the session's last ones (R142). -/
theorem sessionEnd_append (s : State) {a b : List Item} (code : ResultCode) (h : (play a s.env).complete = true) :
    sessionEnd s (a ++ b) code =
      sessionEnd { s with env := (play a s.env).env, trace := s.trace ++ (play a s.env).events } b code := by
  simp [sessionEnd, play_append, h]

/-- A poll answered in full, and then the end of its session (R142, R154). -/
theorem ended_polled (h : s.pollPlayed.complete = true) (code : ResultCode) :
    s.polled.closeSession.ended code .none =
      sessionEnd { s with lastStatus := lastStatusAfterPoll s }
        (pollItems s.params.nopByte (statusRead s.params.nopByte s.env)) code := by
  rw [sessionEnd, ← State.pollPlayed, h]
  simp [State.polled, State.closeSession, State.emit, State.ended]

/-- The exit actions after a poll of which a frame failed (R224). -/
theorem raised_polled (hopen : s.inSession = true) (h : s.pollPlayed.complete = false) :
    s.polled.raised .busError =
      sessionEnd { s with lastStatus := lastStatusAfterPoll s }
        (pollItems s.params.nopByte (statusRead s.params.nopByte s.env)) .busError := by
  rw [sessionEnd, ← State.pollPlayed, h]
  simp [State.raised, State.polled, State.closeSession, State.emit, State.ended, hopen]

/-- Settles O31: at the limit a turn gives up; else it is a poll, and the bits read decide how it goes on. -/
theorem waitTurnEffect : Obligations.WaitTurnEffect := by
  unfold Obligations.WaitTurnEffect
  intro s i hwaits hopen v polled seen t
  rw [step_waiting hwaits]
  refine congrArg Host.Outcome.next ?_
  by_cases hlimit : s.params.pollLimit = some i
  · rw [if_pos hlimit, waitTurn_at_limit hlimit, continueWait_giveUp hopen]
  have hplayed : s.pollPlayed = play polled s.env := rfl
  rw [if_neg hlimit, waitTurn_below_limit hlimit, bind_run, poll_plays, ← hplayed]
  cases hcomplete : s.pollPlayed.complete with
  | false => exact raised_polled hopen hcomplete
  | true =>
    simp only [if_true, Bool.true_eq_false, if_false, answerPoll, completion_bits]
    by_cases hsent : (v.getLsbD 5 && seen) = true
    · rw [if_pos hsent, if_pos hsent]
      exact ended_polled hcomplete .ok
    rw [if_neg hsent, if_neg hsent]
    by_cases hmaxrt : (v.getLsbD 4 && seen) = true
    · rw [if_pos hmaxrt, if_pos hmaxrt, sessionEnd_append t _ hcomplete]
      exact continueWait_giveUp (s := s.polled) hopen i _
    · rw [if_neg hmaxrt, if_neg hmaxrt]
      rfl

end Turn

/-! ### Turns in a row (R205) -/

section Turns

variable {s : State} {k : Nat} {later : List XferResult}

/-- No latch is set where the three bits read clear, and nothing is cleared (R95, R201). -/
theorem quiet_bits {v : Byte} (h : v &&& 0x70 = 0x00) :
    v.getLsbD 5 = false ∧ v.getLsbD 4 = false ∧ clears v = [] := by
  revert v
  decide

/-- TX_DS alone is set, and cleared (R95, R201). -/
theorem sent_bits {v : Byte} (h : v &&& 0x70 = 0x20) :
    v.getLsbD 6 = false ∧ v.getLsbD 5 = true ∧ clears v = [.send [0x27, 0x20]] := by
  revert v
  decide

/-- The answer fixed in advance, of as many bytes as were sent, is the one received (R54). -/
theorem answer_of_answers {e : Env} {rx : List Byte} (h : e.answers = .ok rx :: later) (tx : List Byte)
    (hlength : rx.length = tx.length) : e.answer tx = (.ok rx, { e with answers := later }) := by
  obtain ⟨answers, double, draws⟩ := e
  obtain rfl : answers = .ok rx :: later := h
  rw [Env.answer_fixed, XferResult.checked, if_pos hlength]

/-- A frame that the answers fixed in advance answer in full, and then the items after it. -/
theorem play_of_answers {e : Env} {rx : List Byte} (h : e.answers = .ok rx :: later) (tx : List Byte)
    (hlength : rx.length = tx.length) (items : List Item) :
    play (.send tx :: items) e =
      { play items { e with answers := later } with
        events := frameEvents tx (.ok rx) ++ (play items { e with answers := later }).events } := by
  rw [play, answer_of_answers h tx hlength]

/-- STATUS as the answers fixed in advance give it (R200). -/
theorem statusRead_of_answers {echo v : Byte} (h : s.env.answers = .ok [echo, v] :: later) :
    statusRead s.params.nopByte s.env = v ∧ lastStatusAfterPoll s = v := by
  have hreceived : received s.env [0x07, s.params.nopByte] = some [echo, v] := by
    rw [received, answer_of_answers h [0x07, s.params.nopByte] rfl]
  rw [lastStatusAfterPoll, statusRead, valueRead, hreceived]
  exact ⟨rfl, rfl⟩

/-- The state after turns that read no latch, the first of them numbered `k`, each a poll answered with its pair. -/
def State.afterQuiet (s : State) (k : Nat) (quiet : List (Byte × Byte)) (later : List XferResult) : State :=
  { s with
    lastStatus := (quiet.getLast?.map Prod.snd).getD s.lastStatus
    csn := if quiet = [] then s.csn else .high
    phase := .waiting (k + quiet.length)
    env := { s.env with answers := later }
    trace := s.trace ++ quiet.flatMap fun q => frameEvents [0x07, s.params.nopByte] (.ok [q.1, q.2]) }

theorem afterQuiet_nil (hwaits : s.phase = .waiting k) (hanswers : s.env.answers = later) :
    s.afterQuiet k [] later = s := by
  subst hanswers
  simp [State.afterQuiet, ← hwaits]

/-- One quiet turn, and then the others. -/
theorem afterQuiet_cons (s : State) (k : Nat) (q : Byte × Byte) (quiet : List (Byte × Byte))
    (now later : List XferResult) :
    (s.afterQuiet k [q] now).afterQuiet (k + 1) quiet later = s.afterQuiet k (q :: quiet) later := by
  simp [State.afterQuiet, List.getLast?_cons, Nat.add_assoc, Nat.add_comm 1]

/-- A turn below the limit that reads no latch is one status read, and the wait goes on. -/
theorem step_quiet {q : Byte × Byte} (hwaits : s.phase = .waiting k) (hopen : s.inSession = true)
    (hlimit : s.params.pollLimit ≠ some k) (hquiet : q.2 &&& 0x70 = 0x00)
    (hanswers : s.env.answers = .ok [q.1, q.2] :: later) : step s = .next (s.afterQuiet k [q] later) := by
  obtain ⟨htxDs, hmaxRt, hclears⟩ := quiet_bits hquiet
  obtain ⟨hread, hlast⟩ := statusRead_of_answers hanswers
  have hplay : play (pollItems s.params.nopByte q.2) s.env =
      ⟨frameEvents [0x07, s.params.nopByte] (.ok [q.1, q.2]), true, { s.env with answers := later }⟩ := by
    rw [pollItems, hclears, play_of_answers hanswers [0x07, s.params.nopByte] rfl]
    rfl
  have hturn := waitTurnEffect s k hwaits hopen
  simp only [hread, hlast, hlimit, htxDs, hmaxRt, hplay, Bool.false_and, Bool.true_eq_false, Bool.false_eq_true,
    if_false] at hturn
  simp [hturn, State.afterQuiet]

/-- A turn below the limit that reads TX_DS alone clears it, and ends the command with `Ok`. -/
theorem step_sent {echo v : Byte} {w : List Byte} (hwaits : s.phase = .waiting k) (hopen : s.inSession = true)
    (hlimit : s.params.pollLimit ≠ some k) (hsent : v &&& 0x70 = 0x20) (hw : w.length = 2)
    (hanswers : s.env.answers = .ok [echo, v] :: .ok w :: later) :
    step s = .next
      { s with
        lastStatus := v, csn := .high, inSession := false, result := .ok, reply := .none, phase := .idle
        env := { s.env with answers := later }
        trace := s.trace ++ (frameEvents [0x07, s.params.nopByte] (.ok [echo, v]) ++
          frameEvents [0x27, 0x20] (.ok w) ++ [.release]) } := by
  obtain ⟨hrxDr, htxDs, hclears⟩ := sent_bits hsent
  obtain ⟨hread, hlast⟩ := statusRead_of_answers hanswers
  have hplay : play (pollItems s.params.nopByte v) s.env =
      ⟨frameEvents [0x07, s.params.nopByte] (.ok [echo, v]) ++ frameEvents [0x27, 0x20] (.ok w), true,
        { s.env with answers := later }⟩ := by
    rw [pollItems, hclears, play_of_answers hanswers [0x07, s.params.nopByte] rfl, play_of_answers rfl [0x27, 0x20] hw]
    rfl
  have hturn := waitTurnEffect s k hwaits hopen
  simpa only [hread, hlast, hlimit, hrxDr, htxDs, hplay, sessionEnd, Bool.not_false, Bool.or_true, Bool.and_true,
    Bool.true_eq_false, if_false, if_true] using hturn

/-- At the limit a turn whose flush is answered ends the command with `Timeout`. -/
theorem step_timeout {w : Byte} (hwaits : s.phase = .waiting k) (hopen : s.inSession = true)
    (hlimit : s.params.pollLimit = some k) (hanswers : s.env.answers = .ok [w] :: later) :
    step s = .next
      { s with
        csn := .high, inSession := false, result := .timeout, reply := .none, phase := .idle
        env := { s.env with answers := later }
        trace := s.trace ++ (frameEvents [0xE1] (.ok [w]) ++ [.release]) } := by
  have hplay : play [.send [0xE1]] s.env =
      ⟨frameEvents [0xE1] (.ok [w]), true, { s.env with answers := later }⟩ := play_of_answers hanswers [0xE1] rfl []
  have hturn := waitTurnEffect s k hwaits hopen
  simpa only [hlimit, hplay, sessionEnd, if_true] using hturn

/-- A run's first step. -/
theorem run_succ {M : Host.Core} {a b : M.State} (h : M.step a = .next b) (n : Nat) : M.run (n + 1) a = M.run n b := by
  rw [Host.Core.run, h]

theorem run_step {u : State} (h : step s = .next u) (n : Nat) : core.run (n + 1) s = core.run n u :=
  run_succ (M := core) h n

/-- Below the limit, turns that read no latch are that many status reads, and the wait goes on from there. -/
theorem run_quiet (quiet : List (Byte × Byte)) (hwaits : s.phase = .waiting k) (hopen : s.inSession = true)
    (hlimit : ∀ j < quiet.length, s.params.pollLimit ≠ some (k + j)) (hquiet : ∀ q ∈ quiet, q.2 &&& 0x70 = 0x00)
    (hanswers : s.env.answers = quiet.map (fun q => .ok [q.1, q.2]) ++ later) (n : Nat) :
    core.run (quiet.length + n) s = core.run n (s.afterQuiet k quiet later) := by
  induction quiet generalizing s k with
  | nil =>
    have hsame : s.afterQuiet k [] later = s := afterQuiet_nil hwaits hanswers
    rw [hsame, List.length_nil, Nat.zero_add]
  | cons q quiet ih =>
    have hstep := step_quiet hwaits hopen (hlimit 0 (Nat.zero_lt_succ _)) (hquiet q List.mem_cons_self) hanswers
    have hlimit' : ∀ j < quiet.length, s.params.pollLimit ≠ some (k + 1 + j) := fun j hj =>
      Nat.add_right_comm k j 1 ▸ hlimit (j + 1) (Nat.succ_lt_succ hj)
    have hrest := ih (s := s.afterQuiet k [q] _) rfl hopen hlimit'
      (fun q' hq' => hquiet q' (List.mem_cons_of_mem q hq')) rfl
    rw [List.length_cons, Nat.add_right_comm, ← afterQuiet_cons]
    exact (run_step hstep _).trans hrest

/-- Quiet turns and then a last step. -/
theorem run_quiet_step {quiet : List (Byte × Byte)} {u : State} (hwaits : s.phase = .waiting k)
    (hopen : s.inSession = true) (hlimit : ∀ j < quiet.length, s.params.pollLimit ≠ some (k + j))
    (hquiet : ∀ q ∈ quiet, q.2 &&& 0x70 = 0x00)
    (hanswers : s.env.answers = quiet.map (fun q => .ok [q.1, q.2]) ++ later)
    (hlast : step (s.afterQuiet k quiet later) = .next u) : core.run (quiet.length + 1) s = .next u :=
  (run_quiet quiet hwaits hopen hlimit hquiet hanswers 1).trans (run_step hlast 0)

end Turns

/-- Settles O32: the quiet turns, and then the one that reads TX_DS. -/
theorem sendEndsAtNthPoll : Obligations.SendEndsAtNthPoll := by
  unfold Obligations.SendEndsAtNthPoll
  intro s k quiet echo v w later hwaits hopen hlimit hquiet hsent hw hanswers
  have hunlimited : ∀ j, s.params.pollLimit ≠ some j := by rw [hlimit]; nofun
  have hlast := step_sent (s := s.afterQuiet k quiet (.ok [echo, v] :: .ok w :: later)) rfl hopen (hunlimited _) hsent
    hw rfl
  refine (run_quiet_step hwaits hopen (fun j _ => hunlimited (k + j)) hquiet hanswers hlast).trans ?_
  simp [State.afterQuiet]

/-- Settles O34: as many quiet turns as the limit, and then the one that gives up. -/
theorem timeoutAtPollLimit : Obligations.TimeoutAtPollLimit := by
  unfold Obligations.TimeoutAtPollLimit
  intro s quiet w later hwaits hopen hlimit hquiet hanswers
  have hbelow : ∀ j < quiet.length, s.params.pollLimit ≠ some (0 + j) := by
    intro j hj h
    rw [hlimit, Option.some_inj] at h
    omega
  have hreached : s.params.pollLimit = some (0 + quiet.length) := by rw [hlimit, Nat.zero_add]
  have hlast := step_timeout (s := s.afterQuiet 0 quiet (.ok [w] :: later)) rfl hopen hreached rfl
  refine ⟨_, run_quiet_step hwaits hopen hbelow hquiet hanswers hlast, rfl, rfl, rfl, ?_⟩
  simp [State.afterQuiet]

end Sys2Proof.Machine

/-! SUPPORT. The obligations of 60_exceptions.md: the refused forms, and the causes of `ParameterError`. -/

namespace Sys2Proof.Machine

open Sys2Proof.Safety

/-! ### The refused forms (R226) -/

/-- A code outside R101's table spells no command, whatever follows it (R105). -/
theorem decodeHost_unassigned {code : Byte} (h : isHostCode code = false) (ops : List Byte) :
    decodeHost code ops = .error (.unassignedCode code) := by
  unfold decodeHost
  split
  case h_22 => rfl
  all_goals cases h

/-- With no command running, a record that spells no instruction is refused with the decoder's reason (R226). -/
theorem step_undecodable {s : State} {r : Record} {later : List Record} {reason : Reject} (hidle : s.phase = .idle)
    (hport : s.port = r :: later) (hdecode : decode r = .error reason) : step s = .refused (.undecodable reason) := by
  simp only [step, hidle, State.fetch_of_port hport, hdecode]

/-- SEND_PACKET carries 1 to 32 bytes (R154). -/
theorem exec_sendPacket_refused {s : State} {payload : List Byte} (hidle : s.phase = .idle)
    (hlength : payload.length = 0 ∨ 32 < payload.length) : exec (.sendPacket payload) s = .refused .payloadLength :=
  (hostCommand_idle hidle _).trans (if_neg (not_lengthOk hlength))

/-- Settles O17: a code of none of R101's ranges is read by no row of the decoder, and every other refused form is a
check that its command makes before anything else. -/
theorem refusedForms : Obligations.RefusedForms := by
  unfold Obligations.RefusedForms
  intro s hidle
  have hrx := fun pipe addr => rxDestinationEffect s pipe addr hidle
  refine ⟨fun code ops later hport hcode => ?_, fun addr => ?_, fun pipe addr hpipe hshort => ?_,
    fun pipe hlow hhigh => ?_, fun addr => (txDestinationEffect s addr hidle).2,
    fun _ => exec_sendPacket_refused hidle, fun addr data => (writeRegisterEffect s addr data hidle).2,
    fun size => (readPacketEffect s size hidle).2, fun addr n hcount => ?_⟩
  · have hnone : isHostCode code = false := by
      simp only [isHostCode, Bool.or_eq_false_iff, Bool.and_eq_false_iff, decide_eq_false_iff_not]
      omega
    exact step_undecodable hidle hport (decodeHost_unassigned hnone ops)
  · obtain ⟨-, hall, -⟩ := hrx 6 addr
    exact hall rfl
  · obtain ⟨-, -, hrefused, -⟩ := hrx pipe addr
    exact hrefused (by omega) (by rwa [if_pos hpipe])
  · obtain ⟨-, -, hrefused, -⟩ := hrx pipe []
    exact hrefused hhigh (by rw [if_neg (by omega)]; exact Nat.one_pos)
  · obtain ⟨-, -, hrefused⟩ := readRegisterEffect s addr hidle
    exact hrefused n hcount

/-! ### The causes of `ParameterError` (R221) -/

/-- An operand out of its domain ends its command with `ParameterError`, and nothing else changes (R141). -/
theorem exec_of_operandOutOfDomain {i : Instr} {s : State} (hidle : s.phase = .idle) (hout : operandOutOfDomain i) :
    exec i s = .next { s with result := .parameterError, reply := .none } := by
  cases i with
  | initialise cfg =>
    cases cfg with
    | defaultCfg => exact hout.elim
    | record c =>
      obtain ⟨-, hillegal, -⟩ := initialiseEffect
      exact hillegal s c hidle hout
  | rxDestination pipe addr => exact (rxDestinationEffect s pipe addr hidle).1 hout
  | payloadSize pipe size => exact (payloadSizeEffect s pipe size hidle).1 hout
  | autoRetransmission ard arc =>
    rw [autoRetransmissionEffect s ard arc hidle,
      if_neg fun ⟨hard, harc⟩ => hout.elim (absurd hard) (not_lt.mpr harc)]
  | rfChannel ch =>
    rw [rfChannelEffect s ch hidle, if_neg fun ⟨hlow, hhigh⟩ => hout.elim (not_lt.mpr hlow) (not_lt.mpr hhigh)]
  | rfDataRate dr => rw [(rfSetupEffect s hidle).1 dr, if_neg hout]
  | rfPower pwr => rw [(rfSetupEffect s hidle).2 pwr, if_neg hout]
  | _ => exact hout.elim

/-- The result is not the one of an operand out of its domain (R221). -/
def State.Accepted (t : State) : Prop := t.result ≠ .parameterError

section Accepted

variable {s u : State} {i : Instr}

theorem nextIn_accepted_of_eq {o : Host.Outcome State Fault Refusal} (ho : o = .next u) (hu : u.Accepted) :
    NextIn State.Accepted o := by
  rw [ho]
  exact nextIn_next hu

/-- A session ends with `Ok` or `BusError` (R142, R222). -/
theorem accepted_of_session {complete : Bool} (hu : u.result = if complete then .ok else .busError) : u.Accepted := by
  rw [State.Accepted, hu]
  cases complete <;> nofun

theorem nextIn_accepted_session {o : Host.Outcome State Fault Refusal} {complete : Bool} (ho : o = .next u)
    (hu : u.result = if complete then .ok else .busError := by rfl) : NextIn State.Accepted o :=
  nextIn_accepted_of_eq ho (accepted_of_session hu)

theorem nextIn_accepted_writeReg (addr : Byte) (v : List Byte) :
    NextIn State.Accepted (runCommand s (inOneSession (writeReg addr v) >>= fun _ => pure .none)) :=
  nextIn_accepted_session (runCommand_writeReg addr v s)

theorem nextIn_accepted_poll (reply : Irq × Byte → Reply) :
    NextIn State.Accepted (runCommand s (inOneSession poll >>= fun r => pure (reply r))) :=
  nextIn_accepted_session (runCommand_poll reply s)

theorem nextIn_accepted_standbyMode (hidle : s.phase = .idle) : NextIn State.Accepted (exec .standbyMode s) := by
  obtain ⟨hfromRx, hfromOther⟩ := standbyModeEffect
  by_cases hrx : s.mode = .rx
  · exact nextIn_accepted_session (hfromRx s hidle hrx)
  · exact nextIn_accepted_of_eq (hfromOther s hidle hrx) nofun

theorem nextIn_accepted_sendPacket_of_ne {payload : List Byte} (hidle : s.phase = .idle) (hrx : s.mode ≠ .rx)
    (hlow : 1 ≤ payload.length) (hhigh : payload.length ≤ 32) (hs : s.Accepted) :
    NextIn State.Accepted (exec (.sendPacket payload) s) := by
  refine nextIn_accepted_of_eq (sendPacketEffect s payload hidle hrx hlow hhigh) ?_
  split
  · exact hs
  · exact accepted_of_session rfl

/-- SEND_PACKET has no parameter check, and the pre-step it makes from RX is STANDBY_MODE (R154, R155). -/
theorem nextIn_accepted_sendPacket (payload : List Byte) (hidle : s.phase = .idle) (hs : s.Accepted) :
    NextIn State.Accepted (exec (.sendPacket payload) s) := by
  by_cases hlength : payload.length = 0 ∨ 32 < payload.length
  · rw [exec_sendPacket_refused hidle hlength]
    exact nextIn_refused _
  have hlow : 1 ≤ payload.length := by omega
  have hhigh : payload.length ≤ 32 := by omega
  by_cases hrx : s.mode = .rx
  · obtain ⟨hfromRx, -⟩ := standbyModeEffect
    obtain ⟨u, hstandby⟩ : ∃ u, exec .standbyMode s = .next u := ⟨_, hfromRx s hidle hrx⟩
    obtain ⟨hgoesOn, hends⟩ := sendPacketLeavesReceiver s u payload hrx hlow hhigh hstandby
    by_cases hok : u.result = .ok
    · have hleft : u.mode ≠ .rx := by
        rw [standbyMode_mode hrx hstandby, if_pos hok]
        nofun
      rw [hgoesOn hok]
      exact nextIn_accepted_sendPacket_of_ne (nextIn_ends_standbyMode u hstandby).phase_idle hleft hlow hhigh
        (nextIn_accepted_standbyMode hidle u hstandby)
    · obtain ⟨hsame, -⟩ := hends hok
      exact nextIn_accepted_of_eq hsame (nextIn_accepted_standbyMode hidle u hstandby)
  · exact nextIn_accepted_sendPacket_of_ne hidle hrx hlow hhigh hs

theorem nextIn_accepted_rxDestination {pipe : Byte} (addr : List Byte) (hidle : s.phase = .idle)
    (hpipe : ¬7 ≤ pipe.toNat) : NextIn State.Accepted (exec (.rxDestination pipe addr) s) := by
  rw [exec_rxDestination hidle, if_neg hpipe]
  refine nextIn_dite (fun _ => nextIn_refused _) fun hall => nextIn_ite (nextIn_refused _) ?_
  have hsingle : pipe.toNat ≠ 6 := fun h => hall (BitVec.eq_of_toNat_eq h)
  exact nextIn_accepted_session (runCommand_rxDestinationSequence (by omega) _ s)

theorem nextIn_accepted_payloadSize {pipe size : Byte} (hidle : s.phase = .idle)
    (hin : ¬(size.toNat < 1 ∨ 32 < size.toNat ∨ 7 ≤ pipe.toNat)) :
    NextIn State.Accepted (exec (.payloadSize pipe size) s) := by
  obtain ⟨-, hone, hall⟩ := payloadSizeEffect s pipe size hidle
  by_cases hsingle : pipe.toNat ≤ 5
  · exact nextIn_accepted_session (hone (by omega) (by omega) hsingle)
  · exact nextIn_accepted_session (hall (by omega) (by omega) (by omega))

/-- A command that checks its operands, which are legal. -/
theorem nextIn_accepted_checked {legal : Bool} {o : Host.Outcome State Fault Refusal} (hlegal : legal = true)
    (ho : NextIn State.Accepted o) : NextIn State.Accepted (hostCommand s (if legal then o else parameterError s)) := by
  rw [if_pos hlegal]
  exact nextIn_hostCommand ho

/-- With its operands in their domains a command is refused, or does what its rule says, and then its result is a
session's, the `Ok` of a no-op, or, where SEND_PACKET waits, the one of before. -/
theorem nextIn_accepted_command (hhost : isHostCommand i) (hidle : s.phase = .idle) (hin : ¬operandOutOfDomain i)
    (hs : s.Accepted) : NextIn State.Accepted (exec i s) := by
  cases i with
  | wRegister | rRegister | rRxPayload | wTxPayload | flushTxFrame | flushRxFrame =>
    exact nomatch (hhost : Space.framer = .host)
  | initialise cfg =>
    have hlegal : legalCfg (cfgOf cfg) = true := by
      cases cfg with
      | defaultCfg => rfl
      | record c => exact (legalCfg_iff c).mpr (not_not.mp hin)
    exact nextIn_accepted_checked hlegal (nextIn_accepted_session (runCommand_initialiseSequence _ _))
  | standbyMode => exact nextIn_accepted_standbyMode hidle
  | receiverMode => exact nextIn_accepted_session (receiverModeEffect s hidle)
  | sendPacket payload => exact nextIn_accepted_sendPacket payload hidle hs
  | readPacket size =>
    exact nextIn_hostCommand <| nextIn_ite
      (nextIn_accepted_session (runCommand_isFrame .bytes (isFrame_readRxPayload _ _))) (nextIn_refused _)
  | isPacket => exact nextIn_hostCommand (nextIn_accepted_poll fun r => packetReply r.2)
  | checkStatusIrq => exact nextIn_hostCommand (nextIn_accepted_poll fun r => .status r.1 r.2)
  | rxDestination pipe addr => exact nextIn_accepted_rxDestination addr hidle hin
  | txDestination addr =>
    intro t h
    rw [txDestination_next h]
    exact accepted_of_session rfl
  | payloadSize pipe size => exact nextIn_accepted_payloadSize hidle hin
  | dynPayloadsEnable => exact nextIn_accepted_session (dynPayloadsEffect s hidle).1
  | dynPayloadsDisable => exact nextIn_hostCommand (nextIn_accepted_writeReg _ _)
  | autoRetransmission ard arc =>
    obtain ⟨hard, harc⟩ := not_or.mp hin
    exact nextIn_accepted_checked ((legalRetransmission_iff ard arc).mpr ⟨not_not.mp hard, not_lt.mp harc⟩)
      (nextIn_accepted_writeReg _ _)
  | rfChannel ch =>
    obtain ⟨hlow, hhigh⟩ := not_or.mp hin
    exact nextIn_accepted_checked ((legalCh_iff ch).mpr ⟨not_lt.mp hlow, not_lt.mp hhigh⟩)
      (nextIn_accepted_writeReg _ _)
  | rfDataRate dr =>
    exact nextIn_accepted_checked ((legalDr_iff dr).mpr (not_not.mp hin)) (nextIn_accepted_writeReg _ _)
  | rfPower pwr =>
    exact nextIn_accepted_checked ((legalPwr_iff pwr).mpr (not_not.mp hin)) (nextIn_accepted_writeReg _ _)
  | writeRegister addr data => exact nextIn_hostCommand (nextIn_ite (nextIn_accepted_writeReg _ _) (nextIn_refused _))
  | readRegisterByte addr => exact nextIn_accepted_session (readRegisterEffect s addr hidle).1
  | readRegisterBytes addr n =>
    exact nextIn_hostCommand <| nextIn_ite
      (nextIn_accepted_session (runCommand_isFrame .bytes (isFrame_readRegs _ _ _))) (nextIn_refused _)
  | flushTx => exact nextIn_accepted_session (flushCommandEffect s hidle).1
  | flushRx => exact nextIn_accepted_session (flushCommandEffect s hidle).2

/-- The same for every instruction: a frame reports nothing but a short answer, and a command while another runs is
refused (R12, R222). -/
theorem nextIn_accepted_exec (hin : ¬operandOutOfDomain i) (hs : s.Accepted) : NextIn State.Accepted (exec i s) := by
  by_cases hhost : isHostCommand i
  · by_cases hidle : s.phase = .idle
    · exact nextIn_accepted_command hhost hidle hin hs
    · rw [commandsNeverOverlap.1 i s hhost hidle]
      exact nextIn_refused _
  · intro t h
    obtain ⟨-, tx, ⟨r, rfl⟩ | rfl⟩ := exec_frame_cases hhost h
    · exact hs
    · nofun

end Accepted

/-- Settles O18: each listed operand fails its command's check, and without one no instruction turns the result into
`ParameterError`. -/
theorem parameterErrorCauses : Obligations.ParameterErrorCauses := by
  unfold Obligations.ParameterErrorCauses
  refine ⟨fun i s hidle hout => exec_of_operandOutOfDomain hidle hout, fun i s t hexec herror hbefore => ?_⟩
  exact by_contra fun hin => nextIn_accepted_exec hin hbefore t hexec herror

end Sys2Proof.Machine

/-! SUPPORT. The obligations of 70_reset_and_hazards.md: the state after reset, the wait for the host, and the wait
that never ends. -/

namespace Sys2Proof.Machine

open Sys2Proof.Safety

/-! ### The wait for the host (R241) -/

/-- An empty port holds no record to fetch. -/
theorem State.fetch_of_port_nil {s : State} (h : s.port = []) : s.fetch = none := by
  rw [State.fetch, h]

/-- Settles O6: no turn of a wait is due, and there is no record to fetch. -/
theorem stepWaitsForHost : Obligations.StepWaitsForHost := by
  unfold Obligations.StepWaitsForHost
  intro s hidle hport
  simp only [step, hidle, State.fetch_of_port_nil hport]

/-! ### Reset (R240) -/

/-- Settles O8: each value is the one that `State.reset` is built with. -/
theorem resetState : Obligations.ResetState :=
  ⟨rfl, rfl, rfl, rfl, rfl, rfl, rfl, rfl⟩

/-- The cache at reset is the default configuration, as INITIALISE would commit it (R103, R240). -/
theorem reset_cfg : State.reset.cfg = Cfg.ofRecord defaultRecord := rfl

/-- The clauses on the wait, the cached address and CSN are void at reset: no command runs, no address is cached and
nothing has been emitted. -/
theorem reset_blockInv : BlockInv State.reset where
  cache := by
    rw [reset_cfg]
    exact cfgLegal_ofRecord rfl
  width := rfl
  pipe0 := nofun
  mode := nofun
  result := nofun
  session := ⟨nofun, fun hbusy => absurd rfl hbusy⟩
  wait hbusy := absurd rfl hbusy
  csn hemitted := absurd rfl hemitted

/-- The empty trace leaves the bus closed, and no session is open. -/
theorem reset_busProtocol : BusProtocol State.reset := rfl

/-- Settles O9: the cache is legal, and the rest is what an idle block with an empty trace has. -/
theorem resetMeetsInvariants : Obligations.ResetMeetsInvariants :=
  ⟨reset_blockInv, reset_busProtocol⟩

/-! ### The wait that never ends (R252) -/

/-- Settles O33: with no limit every turn is below it, and quiet turns alone leave the command in its wait. -/
theorem waitWithoutLatchGoesOn : Obligations.WaitWithoutLatchGoesOn := by
  unfold Obligations.WaitWithoutLatchGoesOn
  intro s k quiet later hwaits hopen hlimit hquiet hanswers
  have hunlimited : ∀ j, s.params.pollLimit ≠ some j := by rw [hlimit]; nofun
  have hrun := run_quiet quiet hwaits hopen (fun j _ => hunlimited (k + j)) hquiet hanswers 0
  exact ⟨s.afterQuiet k quiet later, hrun, rfl, hopen, rfl, rfl, rfl⟩

end Sys2Proof.Machine
